-- ==== Sys2Proof/Word.lean ====
section
/-! DEFINITION. The widths of the core (`00_scope.md` R10, R11 and `30_encoding.md` R39): every value it handles as bits, with bit 0 the least significant. -/

namespace Sys2Proof

/-- One inbound event word `EV[9:0]` (R39). -/
abbrev EvWord := BitVec 10

/-- The KIND field of an event word (R39). -/
abbrev Kind := BitVec 2

/-- The DATA field of an event word (R39). -/
abbrev Data := BitVec 8

/-- A sample: 8 bits, unsigned (R10, R41). -/
abbrev Sample := BitVec 8

/-- A value of the PWM duty sink: 8 bits, unsigned (R10, R48). -/
abbrev Duty := BitVec 8

/-- A value of the direction sink `DIR[1:0]`: bit 0 forward-active, bit 1 reverse-active (R46). -/
abbrev DirCode := BitVec 2

end Sys2Proof
end

