-- ==== Sys2Proof/Syntax.lean ====
section
/-! DEFINITION. The core's "instructions": its four event kinds (`00_scope.md` R3, `30_encoding.md` R40), one constructor per row of `opcode_table.json`. -/

namespace Sys2Proof

/-- One inbound event. DATA is an operand of SAMPLE_READY only: for the other three kinds the spec
gives no operand and ignores DATA (R42, R70, R71, R75), so it is dropped by the decoder. -/
inductive Instr where
  /-- KIND 0b00: no event in this step (R70). -/
  | none
  /-- KIND 0b01: the periodic tick, `onTick()` (R71, R72). -/
  | tick
  /-- KIND 0b10: `onSampleReady(sample)` (R73, R74). -/
  | sampleReady (sample : Sample)
  /-- KIND 0b11: the reserved event word (R75). -/
  | reserved
  deriving DecidableEq, Repr

end Sys2Proof
end

