-- ==== Sys2Proof/WellFormed.lean ====
section
/-! DEFINITION. What is checked before a value enters the core: the width of an event word (R39) and the range of an operand written as a numeral (R52). An `Instr` itself needs no check. -/

namespace Sys2Proof

/-- Every `Instr` is well formed: "Every one of the 256 values is valid" (R41), and the other three
kinds have no operand (R40). -/
def Instr.wellFormed : Instr → Bool
  | .none => true
  | .tick => true
  | .sampleReady _ => true
  | .reserved => true

/-- The number `w` is an event word: it fits the 10 bits of `EV` (R39). -/
def isEventWord (w : Nat) : Bool := w < 2 ^ 10

/-- The numeral `n` may stand in `sample <n>` and `rsv <n>`: it lies in [0, 255] (R52). -/
def isOperandNumeral (n : Nat) : Bool := n < 2 ^ 8

end Sys2Proof
end

