-- ==== Sys2Proof/Decode.lean ====
section
/-! DEFINITION. From an event word to an event and back (`30_encoding.md` R39 to R44): the fields, the total decoder of `EV`, a decoder of any number that rejects by name, and the encoder. -/

namespace Sys2Proof

/-- `KIND = EV[9:8]` (R39). -/
def kindField (w : EvWord) : Kind := w.extractLsb 9 8

/-- `DATA = EV[7:0]` (R39). -/
def dataField (w : EvWord) : Data := w.extractLsb 7 0

/-- The decoder of the event port, total on its 1024 words: KIND alone picks the event (R40, R44),
and DATA is read for SAMPLE_READY only (R41, R42). -/
def decodeEvent (w : EvWord) : Instr :=
  if kindField w = 0b00#2 then .none
  else if kindField w = 0b01#2 then .tick
  else if kindField w = 0b10#2 then .sampleReady (dataField w)
  else .reserved

/-- Why a number is no event word. -/
inductive DecodeError where
  /-- It does not fit the 10 bits of `EV` (R39), so it cannot be presented. Safe: nothing runs. -/
  | widerThanEventPort
  deriving DecidableEq, Repr

/-- The decoder on any number. DESIGN CHOICE (log 6): a number of more than 10 bits is rejected, for
the port has no bit that could carry the rest. -/
def decodeWord (w : Nat) : Except DecodeError Instr :=
  if isEventWord w then .ok (decodeEvent (BitVec.ofNat 10 w)) else .error .widerThanEventPort

/-- The KIND of an event (R40). -/
def Instr.kind : Instr → Kind
  | .none => 0b00#2
  | .tick => 0b01#2
  | .sampleReady _ => 0b10#2
  | .reserved => 0b11#2

/-- The DATA the encoder writes. DESIGN CHOICE (log 5): where DATA is ignored it is 0, as the words of
R52's `none`, `tick` and `rsv 0` have it. -/
def Instr.data : Instr → Data
  | .none => 0
  | .tick => 0
  | .sampleReady s => s
  | .reserved => 0

/-- The event word of an event: `KIND ‖ DATA` (R39). -/
def encode (i : Instr) : EvWord := i.kind ++ i.data

/-- What the decoder reads from the low `nbits` bits of `w`, numbered as the opcode table numbers them
(bit 0 least significant; the table's rows are 10 bits wide, 16 in whole bytes). -/
def decodeTableWord (nbits w : Nat) : Option Instr := (decodeWord (w % 2 ^ nbits)).toOption

end Sys2Proof
end

