-- ==== Sys2Proof/Config.lean ====
section
/-! DEFINITION. The launch parameters of `00_scope.md` R7 and R8, fixed for the whole of a launch. EVENT_ORDER (R9) is the environment's choice of the input sequence, `State.inputs`. -/

namespace Sys2Proof

/-- `MID_POLICY`: what the direction is at sample 127 (R7, R57). -/
inductive MidPolicy where
  | reverse
  | neutral
  deriving DecidableEq, Repr

/-- The parameters of a launch. -/
structure Config where
  /-- `MID_POLICY` (R7): the spec leaves it open; every statement about a step holds for both values. -/
  midPolicy : MidPolicy
  /-- `TICK_PERIOD` (R8), in microseconds; no rule reads it. -/
  tickPeriod : Nat
  deriving DecidableEq, Repr

/-- The spec's reference configuration: `MID_POLICY = NEUTRAL` (R7; log 1), and a tick of "conceptually
1 kHz" (R8), DESIGN CHOICE: written as 1000 microseconds (log 2). -/
def Config.reference : Config := { midPolicy := .neutral, tickPeriod := 1000 }

end Sys2Proof
end

