-- ==== Sys2Proof/Machine/State.lean ====
section
/-! DEFINITION. All the state of the core (`10_state.md` R15 to R20), the launch parameters, the environment's input sequence, and the state after reset (`70_reset_and_hazards.md` R99). -/

namespace Sys2Proof.Machine

/-- The logical motor direction (`00_scope.md` glossary, `40_direction.md` R54). -/
inductive Direction where
  | forward
  | reverse
  | neutral
  deriving DecidableEq, Repr

/-- The values of the core's sticky `fault` (R16). They are STATE: raising one is a next state (R86). -/
inductive FaultCode where
  /-- NONE: no fault. -/
  | noFault
  /-- RESERVED_EVENT: an event word with KIND 0b11 was presented (R87). -/
  | reservedEvent
  /-- SPURIOUS_SAMPLE: a SAMPLE_READY arrived while `busy = 0` (R88). -/
  | spuriousSample
  deriving DecidableEq, Repr

/-- One outbound action, an element of `trace` (R12, R20). -/
inductive Action where
  | startConversion
  | setDirection (code : DirCode)
  | setDuty (value : Duty)
  deriving DecidableEq, Repr

/-- What the input ports carry in one step (`30_encoding.md` R39, R45): with `rst` set it is a reset
step and `ev` is ignored; otherwise it is an event step with the word `ev`. -/
structure PortIn where
  rst : Bool
  ev : EvWord
  deriving DecidableEq, Repr

/-- What the output ports carry in one step (R49 to R51). `dir` and `duty` are `none` where the spec
says that the port carries no meaning: its strobe is 0 (R50; DESIGN CHOICE, log 4). -/
structure PortOut where
  startConv : BitVec 1
  dirWe : BitVec 1
  dir : Option DirCode
  dutyWe : BitVec 1
  duty : Option Duty
  busy : BitVec 1
  fault : BitVec 2
  deriving DecidableEq, Repr

/-- The machine. The first five fields are the spec's state; `cfg` holds the launch parameters, which
no step writes (R22); `inputs` and `emitted` are the model's own (log 3, log 4). -/
structure State where
  /-- `busy` (R15): false is idle, true is conversion-in-progress. -/
  busy : Bool
  /-- `fault` (R16). -/
  fault : FaultCode
  /-- `dir_out` (R17): the last direction code written, `none` is the spec's ⊥ (R18). -/
  dirOut : Option DirCode
  /-- `duty_out` (R19): the last duty written, `none` is the spec's ⊥ (R18). -/
  dutyOut : Option Duty
  /-- `trace` (R20): the outbound actions since reset, oldest first. -/
  trace : List Action
  /-- The launch parameters (R7, R8). -/
  cfg : Config
  /-- What the environment presents in the steps to come, next first (R9, R103). -/
  inputs : List PortIn
  /-- The actions of the latest step, from which the strobes are read (R49, R50). -/
  emitted : List Action
  deriving DecidableEq, Repr

/-- Why a step could stop the machine. The core has NO such reason: its functions "never fail" (R85),
its step is total (R68), and the spec's own faults are states a run goes on from (R86). So no step
raises one, which is safe: nothing is left out by it. -/
inductive Fault where
  deriving DecidableEq, Repr

/-- Why a step could have no meaning. -/
inductive Refusal where
  /-- An event kind without a meaning yet, raised by `exec`'s arm of that name. Safe: nothing is claimed
  of such a step. No arm raises it: every event kind has its meaning. -/
  | notModelled (mnemonic : String)
  deriving DecidableEq, Repr

/-- The machine right after a reset step (R99, R100), under the reference configuration, with nothing
presented (log 3). -/
def State.reset : State where
  busy := false
  fault := .noFault
  dirOut := none
  dutyOut := none
  trace := []
  cfg := Config.reference
  inputs := []
  emitted := []

end Sys2Proof.Machine
end

