-- ==== Sys2Proof/Machine/Ops.lean ====
section
/-! DEFINITION. The named operations every event rule is written with: the effect primitives of `00_scope.md` R12, the writes of `busy`, raising a fault (R86) and the reset step that alone clears it (R99), the guard of a faulted core (R69), and taking the next port input. -/

namespace Sys2Proof.Machine

/-- `busy <- b` (R15). -/
def setBusy (b : Bool) (s : State) : State := { s with busy := b }

/-- Appends one action to the trace (R20) and to the actions of this step (R49, R50). -/
def record (a : Action) (s : State) : State :=
  { s with trace := s.trace ++ [a], emitted := s.emitted ++ [a] }

/-- `emit StartConversion()` (R12). -/
def emitStartConversion (s : State) : State := record .startConversion s

/-- `emit SetDirection(b)`: the direction sink takes its whole new value, equal to the old one or not
(R12, R30, R32). -/
def emitSetDirection (b : DirCode) (s : State) : State :=
  { record (.setDirection b) s with dirOut := some b }

/-- `emit SetDuty(v)`: the duty sink takes its whole new value (R12, R30, R32). -/
def emitSetDuty (v : Duty) (s : State) : State :=
  { record (.setDuty v) s with dutyOut := some v }

/-- `raise Fault(reason)` (R12, R86): the one write is to `fault`, and control goes nowhere (R93). -/
def raiseFault (reason : FaultCode) (s : State) : State := { s with fault := reason }

/-- The reset step (R99, R100), the only way out of a fault (R86): it emits nothing, and neither the
parameters nor what the environment presents next are the core's to change. -/
def resetStep (s : State) : State :=
  { State.reset with cfg := s.cfg, inputs := s.inputs }

/-- An event step: R69 comes first, so a faulted core runs no event rule and does nothing. -/
def eventStep (rule : State → State) (s : State) : Host.Outcome State Fault Refusal :=
  if s.fault = .noFault then .next (rule s) else .next s

/-- The empty event word `none` of R52, with `RST = 0`. -/
def idleInput : PortIn := { rst := false, ev := 0 }

/-- What the ports carry in the next step: when no event is presented it is the NONE step (R98). -/
def nextInput (s : State) : PortIn := s.inputs.headD idleInput

/-- The start of a step: its input is taken, and no action has been emitted in it yet. -/
def beginStep (s : State) : State := { s with inputs := s.inputs.tail, emitted := [] }

/-- The environment presents `p` in the next step, before all else it presents (R9). -/
def present (p : PortIn) (s : State) : State := { s with inputs := p :: s.inputs }

/-- An event step's input: `RST = 0` and the word `w` (R45). -/
def eventInput (w : EvWord) : PortIn := { rst := false, ev := w }

/-- A reset step's input: `RST = 1`; its event word is ignored (R45). -/
def resetInput : PortIn := { rst := true, ev := 0 }

/-- A launch (R103): the state its reset step leaves, with the parameters `cfg` fixed and the event
words `evs` still to come. -/
def State.launch (cfg : Config) (evs : List EvWord) : State :=
  { State.reset with cfg := cfg, inputs := evs.map eventInput }

end Sys2Proof.Machine
end

