-- ==== Sys2Proof/Machine/Operands.lean ====
section
/-! DEFINITION. How an operand enters integer arithmetic and how a result is narrowed (`00_scope.md` R11, `30_encoding.md` R41, `41_magnitude.md` R64 and R67). -/

namespace Sys2Proof.Machine

/-- The sample as an integer: zero-extended, never scaled, shifted or sign-extended (R11, R41). -/
def sampleValue (s : Sample) : Int := (s.toNat : Int)

/-- `min(max(t, lo), hi)` (R11, R64). -/
def clamp (lo hi t : Int) : Int := min (max t lo) hi

/-- `bits[7:0]` of an integer, in two's complement (R11): the narrowing R61 writes. -/
def narrowTruncate (t : Int) : BitVec 8 :=
  match t with
  | .ofNat n => BitVec.ofNat 8 n
  | .negSucc n => ~~~(BitVec.ofNat 8 n)

/-- Narrowing by saturation to [0, 255], one of the modes R67 names. -/
def narrowSaturate (t : Int) : BitVec 8 := BitVec.ofNat 8 (clamp 0 255 t).toNat

/-- Narrowing by a range check, one of the modes R67 names: `none` where the check fails. -/
def narrowChecked (t : Int) : Option (BitVec 8) :=
  if 0 ≤ t ∧ t ≤ 255 then some (BitVec.ofNat 8 t.toNat) else none

end Sys2Proof.Machine
end

