-- ==== Sys2Proof/Machine/Direction.lean ====
section
/-! DEFINITION. The direction encoder and the sink encoder (`40_direction.md` R54 to R58), and their comparator-and-mux form (R59). -/

namespace Sys2Proof.Machine

/-- `directionFromSample` (R54): REVERSE below 127 (R55), FORWARD above (R56), the policy's at 127 (R57). -/
def directionFromSample (s : Sample) (policy : MidPolicy) : Direction :=
  if sampleValue s < 127 then .reverse
  else if sampleValue s > 127 then .forward
  else if policy = .neutral then .neutral
  else .reverse

/-- `enc` (R58, R46): the code of a direction, applied at the sink boundary only. -/
def enc : Direction → DirCode
  | .forward => 0b01#2
  | .reverse => 0b10#2
  | .neutral => 0b00#2

/-- R59's comparator output `lt = (s < 127)`. -/
def belowMidpoint (s : Sample) : Bool := s.toNat < 127

/-- R59's comparator output `eq = (s == 0b0111_1111)`. -/
def atMidpoint (s : Sample) : Bool := s == 0b01111111#8

/-- R59's comparator output `gt = s[7]`. -/
def aboveMidpoint (s : Sample) : Bool := s.getLsbD 7

/-- The two direction lines by R59's equations: `DIR[1] = lt OR (eq AND MID_POLICY == REVERSE)` and
`DIR[0] = gt`. -/
def directionLines (s : Sample) (policy : MidPolicy) : DirCode :=
  BitVec.ofBool (belowMidpoint s || (atMidpoint s && decide (policy = .reverse)))
    ++ BitVec.ofBool (aboveMidpoint s)

end Sys2Proof.Machine
end

