-- ==== Sys2Proof/Machine/Magnitude.lean ====
section
/-! DEFINITION. The PWM magnitude calculator (`41_magnitude.md` R61 to R64), its inverter-and-shift form (R65) and its fixed-width form (R67). -/

namespace Sys2Proof.Machine

/-- The exact value `t` of R61: the low half's formula (R62) or the high half's (R63). -/
def magnitudeExact (s : Sample) : Int :=
  if sampleValue s < 128 then 254 - 2 * sampleValue s else 2 * (sampleValue s - 128)

/-- `magnitudeFromSample` (R61): the exact value, the bound of R64, the narrowing of R67. -/
def magnitudeFromSample (s : Sample) : Duty := narrowTruncate (clamp 0 254 (magnitudeExact s))

/-- R65: `DUTY[7:1] = s[6:0] XOR (s[7] ? 0b000_0000 : 0b111_1111)` and `DUTY[0] = 0`. -/
def magnitudeLogic (s : Sample) : Duty :=
  (s.extractLsb 6 0 ^^^ (if s.getLsbD 7 then 0b0000000#7 else 0b1111111#7)) ++ 0#1

/-- The low half's formula `254 - 2*s` in a 10-bit signed accumulator (R67). -/
def lowAccumulator (s : Sample) : BitVec 10 := 254#10 - 2#10 * s.setWidth 10

/-- The high half's formula `2*(s - 128)` in a 10-bit signed accumulator (R67). -/
def highAccumulator (s : Sample) : BitVec 10 := 2#10 * (s.setWidth 10 - 128#10)

/-- The fixed-width implementation of R67: both formulas evaluated for every sample, then one selected
and its `bits[7:0]` taken. -/
def magnitudeFixedWidth (s : Sample) : Duty :=
  (if s.toNat < 128 then lowAccumulator s else highAccumulator s).extractLsb 7 0

end Sys2Proof.Machine
end

