-- ==== Sys2Proof/Machine/Dispatcher.lean ====
section
/-! DEFINITION. The actuation dispatcher (`42_events.md` R73, R74) and the reserved event word (R75). -/

namespace Sys2Proof.Machine

/-- The dispatch of R73: direction first, then duty, then back to idle. -/
def dispatchSample (x : Sample) (s : State) : State :=
  setBusy false
    (emitSetDuty (magnitudeFromSample x)
      (emitSetDirection (enc (directionFromSample x s.cfg.midPolicy)) s))

/-- The body of `onSampleReady(x)`: a dispatch while a conversion is in progress (R73), a spurious
sample otherwise (R74). -/
def onSampleReady (x : Sample) (s : State) : State :=
  if s.busy then dispatchSample x s else raiseFault .spuriousSample s

/-- SAMPLE_READY (R73, R74). -/
def execSampleReady (x : Sample) (s : State) : Host.Outcome State Fault Refusal :=
  eventStep (onSampleReady x) s

/-- RESERVED (R75, R87). -/
def execReserved (s : State) : Host.Outcome State Fault Refusal :=
  eventStep (raiseFault .reservedEvent) s

end Sys2Proof.Machine
end

