-- ==== Sys2Proof/Machine/Trigger.lean ====
section
/-! DEFINITION. The sampling trigger (`42_events.md` R71, R72) and the empty step (R70). -/

namespace Sys2Proof.Machine

/-- NONE (R70): no operation. -/
def execNone (s : State) : Host.Outcome State Fault Refusal := eventStep (fun s => s) s

/-- The body of `onTick()`: an idle trigger starts a conversion (R71), a busy one drops the tick (R72). -/
def onTick (s : State) : State :=
  if s.busy then s else emitStartConversion (setBusy true s)

/-- TICK (R71, R72). -/
def execTick (s : State) : Host.Outcome State Fault Refusal := eventStep onTick s

end Sys2Proof.Machine
end

