-- ==== Sys2Proof/Machine/Dispatch.lean ====
section
/-! DEFINITION. One arm per event kind (`42_events.md` R68): which meaning runs. -/

namespace Sys2Proof.Machine

def exec (i : Instr) (s : State) : Host.Outcome State Fault Refusal :=
  match i with
  | .none => Sys2Proof.Machine.execNone s
  | .tick => Sys2Proof.Machine.execTick s
  | .sampleReady x => Sys2Proof.Machine.execSampleReady x s
  | .reserved => Sys2Proof.Machine.execReserved s

end Sys2Proof.Machine
end

