-- ==== Sys2Proof/Machine/Step.lean ====
section
/-! DEFINITION. One step (`30_encoding.md` R45, `42_events.md` R68): a reset step or an event step, by what the input ports carry. -/

namespace Sys2Proof.Machine

/-- One step: the next port input is taken; with `RST = 1` it is a reset step and `EV` is ignored (R45,
R99); otherwise `EV` is decoded and its rule runs (R68). -/
def step (s : State) : Host.Outcome State Fault Refusal :=
  if (nextInput s).rst then .next (resetStep (beginStep s))
  else exec (decodeEvent (nextInput s).ev) (beginStep s)

/-- `s` with the event word of the low `nbits` bits of `w` presented in the next step (log 3: the core
fetches nothing, R37). A number wider than the port cannot be presented (log 6). -/
def State.withFetchWord (s : State) (nbits w : Nat) : State :=
  if isEventWord (w % 2 ^ nbits) then present (eventInput (BitVec.ofNat 10 (w % 2 ^ nbits))) s else s

end Sys2Proof.Machine
end

