-- ==== Sys2Proof/Machine/Assembler.lean ====
section
/-! DEFINITION. The event-program syntax of `30_encoding.md` R52 and R53: a line of text, the step it spells, and the port input of that step. The core never sees text: this is the transcriber in front of it. -/

namespace Sys2Proof.Machine

/-- One step as R52 writes it. The numeral stands as written: its range is checked by `ProgLine.wellFormed`. -/
inductive ProgLine where
  | reset
  | none
  | tick
  | sample (n : Nat)
  | rsv (n : Nat)
  deriving DecidableEq, Repr

/-- "An n outside [0, 255] spells no step" (R52). -/
def ProgLine.wellFormed : ProgLine → Bool
  | .reset => true
  | .none => true
  | .tick => true
  | .sample n => isOperandNumeral n
  | .rsv n => isOperandNumeral n

/-- The event word of R52's table, as a number; a reset step has none. -/
def ProgLine.word : ProgLine → Nat
  | .reset => 0
  | .none => 0x000
  | .tick => 0x100
  | .sample n => 0x200 + n
  | .rsv n => 0x300 + n

/-- The port input of a line (R45, R52); the transcriber refuses an operand out of range. -/
def transcribe (l : ProgLine) : Option PortIn :=
  if l.wellFormed then
    if l = .reset then some resetInput else some (eventInput (BitVec.ofNat 10 l.word))
  else Option.none

/-- A character that separates words. DESIGN CHOICE (log 7): space, tab and carriage return. -/
def isSeparator (c : Char) : Bool := [' ', '\t', '\r'].contains c

/-- A line's words: what stands between separators, before the `#` that starts a comment (R52). -/
def lineWords (text : List Char) : List (List Char) :=
  ((text.takeWhile (· != '#')).splitOnP isSeparator).filter (fun w => !w.isEmpty)

/-- The digits of R52's decimal numerals, each at the position that is its value. -/
def decimalDigits : List Char := "0123456789".toList

/-- The digits of R52's hexadecimal numerals (`0x00` to `0xFF`), each at the position that is its value. -/
def hexDigits : List Char := "0123456789ABCDEF".toList

/-- The small letters among them. DESIGN CHOICE (log 7): they are read as the capitals R52 writes. -/
def hexDigitsSmall : List Char := "0123456789abcdef".toList

/-- The value a digit has in any of the `alphabets`: its position there. -/
def digitIn (alphabets : List (List Char)) (c : Char) : Option Nat :=
  alphabets.findSome? fun digits => digits.findIdx? (· == c)

/-- The number that digits of a base spell, on from `n`, the number the digits before them spell. -/
def spelledFrom (base : Nat) (alphabets : List (List Char)) (n : Nat) : List Char → Option Nat
  | [] => some n
  | c :: rest => (digitIn alphabets c).bind fun d => spelledFrom base alphabets (base * n + d) rest

/-- A hexadecimal numeral, which begins `0x`, or a decimal one (R52); no numeral is without a digit. -/
def numeralValue (w : List Char) : Option Nat :=
  match w with
  | '0' :: 'x' :: digits =>
    if digits.isEmpty then Option.none else spelledFrom 16 [hexDigits, hexDigitsSmall] 0 digits
  | _ => if w.isEmpty then Option.none else spelledFrom 10 [decimalDigits] 0 w

/-- What R52's synonym of `sample` is written with, before its argument. -/
def sampleReadyCall : List Char := "onSampleReady(".toList

/-- The argument of `onSampleReady(n)`, R52's synonym of `sample n`. -/
def sampleReadyArgument (w : List Char) : Option (List Char) :=
  if sampleReadyCall.isPrefixOf w && w.getLast? == some ')' then
    some (w.drop sampleReadyCall.length).dropLast
  else Option.none

/-- The words of a line as one step (R52, R53). -/
def lineOfWords : List (List Char) → Option ProgLine
  | [w] =>
    if w = "reset".toList then some .reset
    else if w = "none".toList then some .none
    else if w = "tick".toList || w = "onTick()".toList then some .tick
    else ((sampleReadyArgument w).bind numeralValue).map ProgLine.sample
  | [w, n] =>
    if w = "sample".toList then (numeralValue n).map ProgLine.sample
    else if w = "rsv".toList then (numeralValue n).map ProgLine.rsv
    else Option.none
  | _ => Option.none

/-- The port input a line of text spells; `none` where the transcriber refuses the line (R52). -/
def assembleLine (text : List Char) : Option PortIn :=
  (lineOfWords (lineWords text)).bind transcribe

/-- A program: one step per line, a straight list (R52, R53). DESIGN CHOICE (log 7): a line without a
word spells no step and is skipped, be it wholly blank, of separators only, or of nothing but a comment
(R52 is silent on such a line); and one refused line refuses the whole program. -/
def assemble : List (List Char) → Option (List PortIn)
  | [] => some []
  | l :: ls =>
    if (lineWords l).isEmpty then assemble ls
    else
      match assembleLine l, assemble ls with
      | some p, some ps => some (p :: ps)
      | _, _ => Option.none

/-- A program's text as the port inputs of its steps. -/
def assembleText (text : String) : Option (List PortIn) := assemble (text.toList.splitOn '\n')

end Sys2Proof.Machine
end

