-- ==== Sys2Proof/Machine/Flags.lean ====
section
/-! DEFINITION. The core's status, as the status ports show it (`30_encoding.md` R51). `busy` is the only flag (`10_state.md` R23), and no operation sets a flag as a side effect. -/

namespace Sys2Proof.Machine

/-- One bit of a port from a truth value: 1 is true. -/
def portBit (b : Bool) : BitVec 1 := if b then 1 else 0

/-- `BUSY = busy` (R51). -/
def busyPort (s : State) : BitVec 1 := portBit s.busy

/-- The code of `fault` on the `FAULT` port (R51, R86). -/
def faultPortCode : FaultCode → BitVec 2
  | .noFault => 0b00#2
  | .reservedEvent => 0b01#2
  | .spuriousSample => 0b10#2

/-- `FAULT[1:0]` (R51). -/
def faultPort (s : State) : BitVec 2 := faultPortCode s.fault

end Sys2Proof.Machine
end

