-- ==== Sys2Proof/Machine/Ports.lean ====
section
/-! DEFINITION. What the output ports carry after a step (`30_encoding.md` R49 to R51), read from the actions the step emitted and from the state. -/

namespace Sys2Proof.Machine

/-- The action is a conversion start (R49). -/
def Action.isStart : Action → Bool
  | .startConversion => true
  | .setDirection _ => false
  | .setDuty _ => false

/-- The code of a direction write (R50). -/
def Action.code? : Action → Option DirCode
  | .startConversion => none
  | .setDirection b => some b
  | .setDuty _ => none

/-- The value of a duty write (R50). -/
def Action.duty? : Action → Option Duty
  | .startConversion => none
  | .setDirection _ => none
  | .setDuty v => some v

/-- The output ports of the step that led to `s` (R49 to R51). DESIGN CHOICE (log 11): in a step, BUSY
and FAULT show the values AFTER that step's writes, beside the strobes of the step; R51 says only
`BUSY = busy`, and not at which end of the step. -/
def State.ports (s : State) : PortOut where
  startConv := portBit (s.emitted.any Action.isStart)
  dirWe := portBit (s.emitted.findSome? Action.code?).isSome
  dir := s.emitted.findSome? Action.code?
  dutyWe := portBit (s.emitted.findSome? Action.duty?).isSome
  duty := s.emitted.findSome? Action.duty?
  busy := busyPort s
  fault := faultPort s

end Sys2Proof.Machine
end

