-- ==== Sys2Proof/Safety.lean ====
section
/-! DEFINITION. What counts as a successful run (`70_reset_and_hazards.md` R105), what the environment owes the core (`42_events.md` R80), and the properties of a state that the spec states of every reached one (R47, R66, R76, R83, R84). -/

namespace Sys2Proof.Machine

/-- The run has ended: every step of the launch's sequence has been handled (R105). -/
def State.ended (s : State) : Bool := s.inputs.isEmpty

/-- The run has ended and succeeded: `fault = NONE` at its end (R105). -/
def State.succeeded (s : State) : Bool := s.ended && decide (s.fault = .noFault)

/-- The collaborator's duty (a) of R80, seen from a core that is busy or not: a sample only for a
conversion that is in progress, and no reserved word. A tick of an idle core starts a conversion, and
each sample ends one. -/
def contractKept (busy : Bool) : List Instr → Bool
  | [] => true
  | .none :: is => contractKept busy is
  | .tick :: is => contractKept true is
  | .sampleReady _ :: is => busy && contractKept false is
  | .reserved :: _ => false

/-- The events of a list of event words. -/
def eventsOf (evs : List EvWord) : List Instr := evs.map decodeEvent

/-- The two writes of one dispatch, in their order (R34, R73). -/
def dispatchActions (policy : MidPolicy) (x : Sample) : List Action :=
  [.setDirection (enc (directionFromSample x policy)), .setDuty (magnitudeFromSample x)]

/-- The actions of one conversion from its tick to its dispatch (R81, R84). -/
def cycleActions (policy : MidPolicy) (x : Sample) : List Action :=
  .startConversion :: dispatchActions policy x

/-- The trace of a core that has dispatched the samples `xs`, and has one more conversion in progress
if it is busy (R83, R84). -/
def cycleTrace (policy : MidPolicy) (busy : Bool) (xs : List Sample) : List Action :=
  xs.flatMap (cycleActions policy) ++ (if busy then [.startConversion] else [])

/-- The samples `xs` account for all the core has done since reset: its trace, write for write, and the
value each sink holds, which is that of the last sample (R17, R19, R76, R84). -/
def accountsFor (xs : List Sample) (s : State) : Prop :=
  s.trace = cycleTrace s.cfg.midPolicy s.busy xs ∧
  s.dirOut = xs.getLast?.map (fun x => enc (directionFromSample x s.cfg.midPolicy)) ∧
  s.dutyOut = xs.getLast?.map magnitudeFromSample

/-- Some list of samples accounts for the state. -/
def Accounted (s : State) : Prop := ∃ xs, accountsFor xs s

/-- The regular language of R84: `(StartConversion SetDirection(_) SetDuty(_))* (StartConversion)?`. -/
def traceShape : List Action → Bool
  | [] => true
  | [.startConversion] => true
  | .startConversion :: .setDirection _ :: .setDuty _ :: rest => traceShape rest
  | _ => false

/-- The number of `StartConversion` actions, `S` of R83. -/
def startCount (l : List Action) : Nat := l.countP Action.isStart

/-- The number of `SetDirection` actions (R76). -/
def directionCount (l : List Action) : Nat := l.countP (fun a => a.code?.isSome)

/-- The number of `SetDuty` actions, `D` of R83. -/
def dutyCount (l : List Action) : Nat := l.countP (fun a => a.duty?.isSome)

/-- The counts of R76 and R83: as many direction writes as duty writes, and one start more if and only
if the core is busy. -/
def Counted (s : State) : Prop :=
  startCount s.trace = dutyCount s.trace + s.busy.toNat ∧
  directionCount s.trace = dutyCount s.trace

/-- A direction code the sink may be given: not both lines active (R46, R47). -/
def legalCode (b : DirCode) : Bool := b ≠ 0b11#2

/-- A duty the sink may be given: even and at most 254 (R48, R66). -/
def legalDuty (v : Duty) : Bool := decide (v.toNat ≤ 254) && !v.getLsbD 0

/-- An action whose value its sink may be given. -/
def legalAction : Action → Bool
  | .startConversion => true
  | .setDirection b => legalCode b
  | .setDuty v => legalDuty v

/-- Every value a sink holds, and every action on record, is legal (R17, R19, R47, R48). -/
def OutputsLegal (s : State) : Prop :=
  s.dirOut.all legalCode = true ∧ s.dutyOut.all legalDuty = true ∧
  s.trace.all legalAction = true ∧ s.emitted.all legalAction = true

/-- The input is no reset step. -/
def PortIn.isEvent (p : PortIn) : Bool := !p.rst

/-- The input is an event step that brings no sample (R107). -/
def PortIn.bringsNoSample (p : PortIn) : Bool := !p.rst && decide (kindField p.ev ≠ 0b10#2)

/-- Changes the next state of an outcome, and nothing else of it. -/
def mapNext (f : State → State) : Host.Outcome State Fault Refusal → Host.Outcome State Fault Refusal
  | .next s => .next (f s)
  | .fault r => .fault r
  | .refused r => .refused r

/-- `s` under other launch parameters. -/
def State.withCfg (c : Config) (s : State) : State := { s with cfg := c }

/-- The words of one source cycle: a tick and then its sample (`95_test_vectors.md` section 1.4). -/
def cycleWords (x : Sample) : List EvWord := [encode .tick, encode (.sampleReady x)]

end Sys2Proof.Machine
end

