-- ==== Sys2Proof/Certificates/Slice0/Obligations.lean ====
section
/-! DEFINITION. The statements about the core, from the numbered rules of the spec. Where one rests on a decision the spec marks as its own, or on a choice of this model, its docstring names the decision or the log entry. -/

open Sys2Proof Sys2Proof.Machine

/-- One or two words of each row of R40, written out bit by bit (`30_encoding.md` sections 2 and 5). The
word layout is the spec's decision D5; DATA ignored is D7. -/
def Obligations.EventWordsReadAsTheTableSays : Prop :=
  decodeEvent 0b0000000000#10 = .none ∧ decodeEvent 0b0011111111#10 = .none ∧
  decodeEvent 0b0100000000#10 = .tick ∧ decodeEvent 0b0111111111#10 = .tick ∧
  decodeEvent 0b1000000000#10 = .sampleReady 0 ∧
  decodeEvent 0b1001000000#10 = .sampleReady 64 ∧
  decodeEvent 0b1011111111#10 = .sampleReady 255 ∧
  decodeEvent 0b1100000000#10 = .reserved ∧ decodeEvent 0b1101010101#10 = .reserved

/-- Encoding an event and decoding the word gives the event back, on the port and as a number, with the
sample at each of its 256 values (`30_encoding.md` section 2). -/
def Obligations.DecodeInvertsEncode : Prop :=
  ∀ i : Instr, decodeEvent (encode i) = i ∧ decodeWord (encode i).toNat = .ok i ∧
    decodeTableWord 16 (encode i).toNat = some i

/-- Two words are the same event exactly when KIND agrees, and DATA too where KIND is SAMPLE_READY's: no
other bit is read and none of these is dropped (`30_encoding.md` section 2; decisions D5, D7). -/
def Obligations.DecodingReadsKindAndSampleOnly : Prop :=
  ∀ w w' : EvWord, decodeEvent w = decodeEvent w' ↔
    kindField w = kindField w' ∧ (kindField w = 0b10#2 → dataField w = dataField w')

/-- Encoding what was decoded keeps KIND, keeps a sample's DATA, and writes DATA 0 where it is ignored.
The 0 is this model's choice (log 5). -/
def Obligations.EncodeRestoresTheWordRead : Prop :=
  ∀ (w : EvWord) (i : Instr), decodeEvent w = i →
    kindField (encode i) = kindField w ∧
    dataField (encode i) = (if kindField w = 0b10#2 then dataField w else 0)

/-- A number is decoded exactly when it fits the 10 bits of `EV`. That a wider one is rejected is this
model's choice (log 6); that every event word decodes is `30_encoding.md` section 2. -/
def Obligations.WiderNumbersAreNoEventWords : Prop :=
  ∀ n : Nat, (n < 1024 → ∃ i, decodeWord n = .ok i) ∧
    (1024 ≤ n → decodeWord n = .error .widerThanEventPort)

/-- A step runs the decoded event: the input is taken, the record of the step's actions begins empty
(log 3, log 4), and then the step IS `exec` of the decoded event. The same of a word placed by
`withFetchWord`. (`30_encoding.md` section 2, `42_events.md` section 1.) -/
def Obligations.StepRunsTheDecodedEvent : Prop :=
  (∀ (s : State) (w : EvWord) (rest : List PortIn), s.inputs = eventInput w :: rest →
    step s = exec (decodeEvent w) { s with inputs := rest, emitted := [] }) ∧
  (∀ (s : State) (nbits w : Nat) (i : Instr), decodeTableWord nbits w = some i →
    step (s.withFetchWord nbits w) = exec i { s with emitted := [] })

/-- Where nothing is presented, the step is the empty step: the core does nothing and drives no strobe
(`60_exceptions.md` section 5; decision D17, D6). -/
def Obligations.NothingPresentedIsTheEmptyStep : Prop :=
  ∀ s : State, s.inputs = [] →
    step s = .next { s with emitted := [] } ∧
    step s = exec .none { s with emitted := [] }

/-- A reset step, whatever the state before and whatever `EV` carries: `70_reset_and_hazards.md`
section 1, whose values are the spec's decisions D11 and D12. It drives no strobe, clears any fault and
leaves the parameters; with event words to come it leaves the start of a launch. (BUSY and FAULT are
taken after the step's writes: this model's choice, log 11.) -/
def Obligations.ResetStepClearsEverything : Prop :=
  (∀ (s : State) (w : EvWord) (rest : List PortIn),
    s.inputs = { rst := true, ev := w } :: rest →
    ∃ t, step s = .next t ∧
      t = { busy := false, fault := .noFault, dirOut := none, dutyOut := none, trace := [],
            cfg := s.cfg, inputs := rest, emitted := [] } ∧
      t.ports = { startConv := 0, dirWe := 0, dir := none, dutyWe := 0, duty := none,
                  busy := 0, fault := 0b00#2 }) ∧
  (∀ (s : State) (w : EvWord) (evs : List EvWord),
    s.inputs = { rst := true, ev := w } :: evs.map eventInput →
    step s = .next (State.launch s.cfg evs))

/-- NONE does nothing, in any state, with any DATA, and drives no strobe (`42_events.md` section 2; the
spec's decisions D6 and D7). -/
def Obligations.NoneDoesNothing : Prop :=
  (∀ s : State, exec .none s = .next s) ∧
  (∀ (s : State) (d : Data) (rest : List PortIn), s.inputs = eventInput (0b00#2 ++ d) :: rest →
    step s = .next { s with inputs := rest, emitted := [] })

/-- R71: a TICK of an idle core sets `busy` and emits StartConversion, and changes nothing else; DATA
is ignored; START_CONV is 1 for the step; the first tick after reset is this case. (`inputs` and
`emitted` are the model's fields for the ports, log 3 and log 4.) -/
def Obligations.TickStartsAConversionWhenIdle : Prop :=
  ∀ s : State, s.fault = .noFault → s.busy = false →
    exec .tick s = .next { s with
      busy := true
      trace := s.trace ++ [.startConversion]
      emitted := s.emitted ++ [.startConversion] } ∧
    (∀ (d : Data) (rest : List PortIn), s.inputs = eventInput (0b01#2 ++ d) :: rest →
      ∃ t, step s = .next t ∧ t.ports.startConv = 1 ∧
        t = { s with
          busy := true
          trace := s.trace ++ [.startConversion]
          inputs := rest
          emitted := [.startConversion] }) ∧
    (∀ (cfg : Config) (d : Data) (evs : List EvWord),
      ∃ t, step (State.launch cfg ((0b01#2 ++ d) :: evs)) = .next t ∧
        t.busy = true ∧ t.fault = .noFault ∧ t.trace = [.startConversion])

/-- R72: a TICK of a busy core is a no-op, is not remembered and drives no START_CONV; so is any number
of ticks in a row; the next tick after the dispatch starts the next conversion. (`inputs` and `emitted`
are the model's fields for the ports, log 3 and log 4.) -/
def Obligations.TickWhileBusyIsDropped : Prop :=
  ∀ s : State, s.fault = .noFault → s.busy = true →
    exec .tick s = .next s ∧
    (∀ (d : Data) (rest : List PortIn), s.inputs = eventInput (0b01#2 ++ d) :: rest →
      ∃ t, step s = .next t ∧ t.ports.startConv = 0 ∧
        t = { s with inputs := rest, emitted := [] }) ∧
    (∀ (ds : List Data) (d : Data) (rest : List PortIn),
      s.inputs = (d :: ds).map (fun d => eventInput (0b01#2 ++ d)) ++ rest →
      core.run (ds.length + 1) s = .next { s with inputs := rest, emitted := [] }) ∧
    (∀ (x : Sample) (u : State), exec (.sampleReady x) s = .next u →
      exec .tick u = .next { u with
        busy := true
        trace := u.trace ++ [.startConversion]
        emitted := u.emitted ++ [.startConversion] })

/-- R73, the dispatch: both sinks are written, direction first, whatever they held; then the core is
idle. Nothing else changes. Both strobes are 1 and carry the two values. Last, the corner cases and the
worked example of the rule. (The bits of the codes are the spec's decision D3;
`inputs` and `emitted` are the model's fields for the ports, log 3 and log 4.) -/
def Obligations.SampleDispatchesWhileBusy : Prop :=
  ∀ (s : State) (x : Sample), s.fault = .noFault → s.busy = true →
    exec (.sampleReady x) s = .next { s with
      busy := false
      dirOut := some (enc (directionFromSample x s.cfg.midPolicy))
      dutyOut := some (magnitudeFromSample x)
      trace := s.trace ++ [.setDirection (enc (directionFromSample x s.cfg.midPolicy)),
                           .setDuty (magnitudeFromSample x)]
      emitted := s.emitted ++ [.setDirection (enc (directionFromSample x s.cfg.midPolicy)),
                               .setDuty (magnitudeFromSample x)] } ∧
    (∀ rest : List PortIn, s.inputs = eventInput (0b10#2 ++ x) :: rest →
      ∃ t, step s = .next t ∧ t.inputs = rest ∧
        t.ports.startConv = 0 ∧
        t.ports.dirWe = 1 ∧
        t.ports.dir = some (enc (directionFromSample x s.cfg.midPolicy)) ∧
        t.ports.dutyWe = 1 ∧
        t.ports.duty = some (magnitudeFromSample x)) ∧
    (∀ t : State, exec (.sampleReady x) s = .next t →
      (x = 127 → t.dutyOut = some 0 ∧
        t.dirOut = some (match s.cfg.midPolicy with | .neutral => 0b00#2 | .reverse => 0b10#2)) ∧
      (x = 128 → t.dirOut = some 0b01#2 ∧ t.dutyOut = some 0) ∧
      (x = 0 → t.dirOut = some 0b10#2 ∧ t.dutyOut = some 254) ∧
      (x = 255 → t.dirOut = some 0b01#2 ∧ t.dutyOut = some 254) ∧
      (x = 64 → t.dirOut = some 0b10#2 ∧ t.dutyOut = some 126))

/-- A SAMPLE_READY of an idle core raises SPURIOUS_SAMPLE and does nothing else: no sink is written and
the sample is discarded, so it is the same state for every sample (`42_events.md` section 4; the spec's
decision D9). -/
def Obligations.SampleWhileIdleRaisesSpuriousSample : Prop :=
  ∀ (s : State) (x : Sample), s.fault = .noFault → s.busy = false →
    exec (.sampleReady x) s = .next { s with fault := .spuriousSample }

/-- RESERVED raises RESERVED_EVENT whatever `busy` is, and does nothing else; no DATA bit is kept
(`42_events.md` section 5; the spec's decision D8). -/
def Obligations.ReservedEventRaisesItsFault : Prop :=
  ∀ s : State, s.fault = .noFault →
    exec .reserved s = .next { s with fault := .reservedEvent } ∧
    (∀ (d : Data) (rest : List PortIn), s.inputs = eventInput (0b11#2 ++ d) :: rest →
      step s = .next { s with fault := .reservedEvent, inputs := rest, emitted := [] })

/-- R69: a faulted core does nothing at any event and drives no strobe, for as many event steps as are
presented with no reset step among them; a reset step ends it. -/
def Obligations.FaultedCoreIsQuiescent : Prop :=
  ∀ s : State, s.fault ≠ .noFault →
    (∀ i : Instr, exec i s = .next s) ∧
    (∀ k : Nat, k < s.inputs.length → (∀ p ∈ s.inputs.take (k + 1), p.isEvent = true) →
      ∃ t, core.run (k + 1) s = .next t ∧
        t.busy = s.busy ∧ t.fault = s.fault ∧ t.dirOut = s.dirOut ∧ t.dutyOut = s.dutyOut ∧
        t.trace = s.trace ∧
        t.ports.startConv = 0 ∧ t.ports.dirWe = 0 ∧ t.ports.dutyWe = 0) ∧
    ((nextInput s).rst = true → ∃ t, step s = .next t ∧ t.fault = .noFault)

/-- R55 and R56: REVERSE below 127 and FORWARD above, whatever the policy; with the scenarios the two
rules quote. -/
def Obligations.DirectionSplitsAt127 : Prop :=
  (∀ (x : Sample) (p : MidPolicy), x.toNat < 127 → directionFromSample x p = .reverse) ∧
  (∀ (x : Sample) (p : MidPolicy), 127 < x.toNat → directionFromSample x p = .forward) ∧
  (∀ p : MidPolicy,
    directionFromSample 0 p = .reverse ∧ directionFromSample 1 p = .reverse ∧
    directionFromSample 128 p = .forward ∧ directionFromSample 129 p = .forward ∧
    directionFromSample 255 p = .forward)

/-- Which code a dispatch writes, each exactly when: 0b00 for 127 under NEUTRAL only, 0b10 below 127 and
for 127 under REVERSE, 0b01 above 127 (`40_direction.md` sections 1, 2 and 4; the spec's decisions D2 on
the midpoint and D3 on the bits). -/
def Obligations.DirectionCodeFollowsSampleAndPolicy : Prop :=
  ∀ (s : State) (x : Sample), s.fault = .noFault → s.busy = true →
    ∃ t, exec (.sampleReady x) s = .next t ∧
      (t.dirOut = some 0b00#2 ↔ x = 127 ∧ s.cfg.midPolicy = .neutral) ∧
      (t.dirOut = some 0b10#2 ↔ x.toNat < 127 ∨ x = 127 ∧ s.cfg.midPolicy = .reverse) ∧
      (t.dirOut = some 0b01#2 ↔ 127 < x.toNat) ∧
      t.dirOut ≠ some 0b11#2

/-- R62 and R63: the two halves' formulas, their end values, and their steps of 2. -/
def Obligations.MagnitudeHalvesFollowTheirFormulas : Prop :=
  (∀ x : Sample, x.toNat < 128 →
    ((magnitudeFromSample x).toNat : Int) = 254 - 2 * (x.toNat : Int)) ∧
  (∀ x : Sample, 128 ≤ x.toNat →
    ((magnitudeFromSample x).toNat : Int) = 2 * ((x.toNat : Int) - 128)) ∧
  magnitudeFromSample 0 = 254 ∧ magnitudeFromSample 127 = 0 ∧
  magnitudeFromSample 128 = 0 ∧ magnitudeFromSample 255 = 254 ∧
  (∀ x y : Sample, y.toNat = x.toNat + 1 → y.toNat < 128 →
    (magnitudeFromSample y).toNat + 2 = (magnitudeFromSample x).toNat) ∧
  (∀ x y : Sample, y.toNat = x.toNat + 1 → 128 ≤ x.toNat →
    (magnitudeFromSample y).toNat = (magnitudeFromSample x).toNat + 2)

/-- The shape of the magnitude (`41_magnitude.md` section 2, derived there): even and at most 254, strictly
falling and then strictly rising, zero at 127 and 128 only, 254 at the ends only, exactly symmetric
(`90_conflicts.md` C1), each half onto the even values. -/
def Obligations.MagnitudeIsAnExactV : Prop :=
  (∀ x : Sample, (magnitudeFromSample x).toNat % 2 = 0 ∧ (magnitudeFromSample x).toNat ≤ 254) ∧
  (∀ x y : Sample, x.toNat < y.toNat → y.toNat < 128 →
    (magnitudeFromSample y).toNat < (magnitudeFromSample x).toNat) ∧
  (∀ x y : Sample, 128 ≤ x.toNat → x.toNat < y.toNat →
    (magnitudeFromSample x).toNat < (magnitudeFromSample y).toNat) ∧
  (∀ x : Sample, magnitudeFromSample x = 0 ↔ x = 127 ∨ x = 128) ∧
  (∀ x : Sample, magnitudeFromSample x = 254 ↔ x = 0 ∨ x = 255) ∧
  (∀ k : Nat, k ≤ 127 →
    (magnitudeFromSample (BitVec.ofNat 8 (127 - k))).toNat = 2 * k ∧
    (magnitudeFromSample (BitVec.ofNat 8 (128 + k))).toNat = 2 * k)

/-- Every dispatch drives the sinks with what the combinational forms give: the direction lines of R59,
the inverter and shift of R65, the 10-bit accumulators of R67; and with what the exact value of R61
gives without its clamp, narrowed by truncation, by saturation or by a range check, so that neither the
clamp nor the narrowing mode can be observed (`40_direction.md` section 3, `41_magnitude.md` sections 1
and 3, derived there; `93_implementation_defined.md` I3). -/
def Obligations.CombinationalFormsDriveTheSinks : Prop :=
  ∀ (s : State) (x : Sample), s.fault = .noFault → s.busy = true →
    ∃ t, exec (.sampleReady x) s = .next t ∧
      t.dirOut = some (directionLines x s.cfg.midPolicy) ∧
      t.dutyOut = some (magnitudeLogic x) ∧
      t.dutyOut = some (magnitudeFixedWidth x) ∧
      t.dutyOut = some (narrowTruncate (magnitudeExact x)) ∧
      t.dutyOut = some (narrowSaturate (magnitudeExact x)) ∧
      t.dutyOut = narrowChecked (magnitudeExact x)

/-- The state diagram of a core that is not faulted, row by row (`42_events.md` section 6, table of R82,
derived there; the two fault rows are the spec's decisions D8 and D9). -/
def Obligations.EventsFollowTheStateDiagram : Prop :=
  ∀ (s : State) (i : Instr), s.fault = .noFault →
    ∃ t, exec i s = .next t ∧
      (t.busy, t.trace, t.fault) =
        (match s.busy, i with
          | false, .none => (false, s.trace, .noFault)
          | false, .tick => (true, s.trace ++ [.startConversion], .noFault)
          | false, .sampleReady _ => (false, s.trace, .spuriousSample)
          | false, .reserved => (false, s.trace, .reservedEvent)
          | true, .none => (true, s.trace, .noFault)
          | true, .tick => (true, s.trace, .noFault)
          | true, .sampleReady x =>
            (false, s.trace ++ dispatchActions s.cfg.midPolicy x, .noFault)
          | true, .reserved => (true, s.trace, .reservedEvent))

/-- The frame of every event (`10_state.md` sections 2 and 3): the parameters and the environment's
sequence never change; a sink changes only in a dispatch; `busy` only in a tick of an idle core and in a
dispatch; `fault` only where RESERVED or a spurious sample raises it; the trace only grows, and not at
all in NONE and RESERVED. -/
def Obligations.EventsChangeNothingElse : Prop :=
  ∀ (i : Instr) (s t : State), exec i s = .next t →
    t.cfg = s.cfg ∧ t.inputs = s.inputs ∧
    ((∀ x, i ≠ .sampleReady x) ∨ s.busy = false ∨ s.fault ≠ .noFault →
      t.dirOut = s.dirOut ∧ t.dutyOut = s.dutyOut) ∧
    (t.busy ≠ s.busy →
      s.fault = .noFault ∧ (i = .tick ∧ t.busy = true ∨ ∃ x, i = .sampleReady x ∧ t.busy = false)) ∧
    (t.fault ≠ s.fault →
      s.fault = .noFault ∧
        (i = .reserved ∧ t.fault = .reservedEvent ∨
          ∃ x, i = .sampleReady x ∧ s.busy = false ∧ t.fault = .spuriousSample)) ∧
    (∃ l, t.trace = s.trace ++ l ∧ t.emitted = s.emitted ++ l ∧
      (i = .none ∨ i = .reserved → l = []) ∧
      (i = .tick → l = [] ∨ l = [.startConversion]) ∧
      (∀ x, i = .sampleReady x → l = [] ∨ l = dispatchActions s.cfg.midPolicy x))

/-- What the output ports carry in a step (`30_encoding.md` section 3; decisions D5, D10, D15): the
strobes show the step's actions, which an event step appends to the trace; the data ports carry a value
exactly while their strobe is 1, the one the sink now holds; no step both starts a conversion and writes
a sink; DIR never carries 0b11 and FAULT never is 0b11. That BUSY and FAULT of a step show the values
after its writes is this model's choice (log 11). -/
def Obligations.PortsShowTheStep : Prop :=
  ∀ s t : State, step s = .next t →
    ((nextInput s).isEvent = true → t.trace = s.trace ++ t.emitted) ∧
    ((nextInput s).isEvent = false → t.emitted = []) ∧
    (t.ports.startConv = 1 ↔ .startConversion ∈ t.emitted) ∧
    (t.ports.dirWe = 1 ↔ t.ports.dutyWe = 1) ∧
    (t.ports.dirWe = 1 → t.ports.startConv = 0) ∧
    (t.ports.dirWe = 1 →
      ∃ b v, t.emitted = [.setDirection b, .setDuty v] ∧
        t.ports.dir = some b ∧ t.dirOut = some b ∧ b ≠ 0b11#2 ∧
        t.ports.duty = some v ∧ t.dutyOut = some v) ∧
    (t.ports.dirWe = 0 → t.ports.dir = none ∧ t.ports.duty = none) ∧
    (t.ports.busy = 1 ↔ t.busy = true) ∧
    (t.ports.fault = 0b00#2 ↔ t.fault = .noFault) ∧
    (t.ports.fault = 0b01#2 ↔ t.fault = .reservedEvent) ∧
    (t.ports.fault = 0b10#2 ↔ t.fault = .spuriousSample) ∧
    t.ports.fault ≠ 0b11#2

/-- No step writes a parameter (`10_state.md` section 5), and parameters decide nothing but the direction
at 127 (`40_direction.md` section 1, `41_magnitude.md` section 1). With the same MID_POLICY every step is
the same step, so TICK_PERIOD is read by no rule (`00_scope.md` section 3; decision D21). Under any
parameters every step but an event step with the sample 127 is the same step. In that one, an idle or a
faulted core's step is the same too, and a dispatch differs in nothing but the code of its one direction
write. -/
def Obligations.ParametersDecideOnlyTheMidpoint : Prop :=
  (∀ s t : State, step s = .next t → t.cfg = s.cfg) ∧
  (∀ (s : State) (c : Config),
    c.midPolicy = s.cfg.midPolicy ∨
      ((nextInput s).isEvent = true → decodeEvent (nextInput s).ev ≠ .sampleReady 127) →
    step (s.withCfg c) = mapNext (State.withCfg c) (step s)) ∧
  (∀ (s : State) (c : Config), (nextInput s).isEvent = true →
    decodeEvent (nextInput s).ev = .sampleReady 127 →
    (s.busy = false ∨ s.fault ≠ .noFault →
      step (s.withCfg c) = mapNext (State.withCfg c) (step s)) ∧
    (s.busy = true → s.fault = .noFault →
      ∃ t code code', step s = .next t ∧
        code = enc (directionFromSample 127 s.cfg.midPolicy) ∧
        code' = enc (directionFromSample 127 c.midPolicy) ∧
        t.emitted = [.setDirection code, .setDuty 0] ∧
        t.trace = s.trace ++ [.setDirection code, .setDuty 0] ∧
        t.dirOut = some code ∧
        step (s.withCfg c) = .next { t with
          cfg := c
          dirOut := some code'
          trace := s.trace ++ [.setDirection code', .setDuty 0]
          emitted := [.setDirection code', .setDuty 0] }))

/-- A dispatch depends only on its own sample and MID_POLICY (R78, `42_events.md` section 6): two busy
cores under the same policy, whatever else they hold, are given the same two writes. -/
def Obligations.DispatchDependsOnSampleAndPolicyOnly : Prop :=
  ∀ (s₁ s₂ t₁ t₂ : State) (x : Sample),
    s₁.fault = .noFault → s₁.busy = true → s₂.fault = .noFault → s₂.busy = true →
    s₁.cfg.midPolicy = s₂.cfg.midPolicy →
    exec (.sampleReady x) s₁ = .next t₁ → exec (.sampleReady x) s₂ = .next t₂ →
    t₁.busy = t₂.busy ∧ t₁.fault = t₂.fault ∧
    t₁.dirOut = t₂.dirOut ∧ t₁.dutyOut = t₂.dutyOut ∧
    ∃ a b, t₁.trace = s₁.trace ++ [a, b] ∧ t₂.trace = s₂.trace ++ [a, b]

/-- A fault is sticky (`10_state.md` section 2, `60_exceptions.md` section 1; the spec's decision D14): a
step that changes a raised fault is a reset step, and it leaves NONE. -/
def Obligations.OnlyResetClearsAFault : Prop :=
  ∀ s t : State, step s = .next t → s.fault ≠ .noFault → t.fault ≠ s.fault →
    (nextInput s).rst = true ∧ t.fault = .noFault

/-- No run stops: every step from every state answers a next state (`42_events.md` section 1 "total and
deterministic", `60_exceptions.md` section 1 "never fail"). -/
def Obligations.EveryRunGoesOn : Prop :=
  ∀ (k : Nat) (s : State), ∃ t, core.run k s = .next t

/-- Every step keeps the state accounted for by the samples dispatched since reset: the trace is their
cycles, write for write, plus one start if busy, and each sink holds what the last of them gave it, ⊥ if
none (`10_state.md` section 3 and `42_events.md` section 6, where R76, R83 and R84 are derived). -/
def Obligations.StepKeepsTheStateAccountedFor : Prop :=
  ∀ s t : State, Accounted s → step s = .next t → Accounted t

/-- Every step keeps the counts: `busy` is starts less duty writes, and there are as many direction
writes as duty writes (`42_events.md` section 6, R76 and R83, derived there). -/
def Obligations.StepKeepsTheWriteCounts : Prop :=
  ∀ s t : State, Counted s → step s = .next t → Counted t

/-- Every step keeps every sink value and every recorded action legal: never the code 0b11, no odd duty,
none over 254 (`30_encoding.md` section 3, R47 and R48, derived there; decision D4). -/
def Obligations.StepKeepsTheOutputsLegal : Prop :=
  ∀ s t : State, OutputsLegal s → step s = .next t → OutputsLegal t

/-- A launch begins in the invariants (its values are the spec's decisions D11, D12), and so does
`State.reset`, which is the launch of the reference configuration with nothing to come (log 1, 2, 3). -/
def Obligations.LaunchMeetsTheInvariants : Prop :=
  (∀ (cfg : Config) (evs : List EvWord),
    Accounted (State.launch cfg evs) ∧ Counted (State.launch cfg evs) ∧
    OutputsLegal (State.launch cfg evs) ∧ (State.launch cfg evs).fault = .noFault) ∧
  State.reset = State.launch Config.reference []

/-- The trace of any run from reset, under any parameters and any sequence of port inputs, resets and
contract violations among them, is a word of the language of R84 (`42_events.md` section 6, derived
there), with the counts of R83. -/
def Obligations.EveryReachedTraceHasTheCycleShape : Prop :=
  ∀ (cfg : Config) (ps : List PortIn) (k : Nat) (t : State),
    core.run k { State.reset with cfg := cfg, inputs := ps } = .next t →
    traceShape t.trace = true ∧ startCount t.trace = dutyCount t.trace + t.busy.toNat

/-- The end-to-end property of `95_test_vectors.md` section 1.4, for any samples: ticks each followed by
its sample give exactly one start, one direction write and one duty write per sample, in order, and
leave the core idle, not faulted, its sinks as the last sample has them. -/
def Obligations.TickAndSampleCyclesDispatchEverySample : Prop :=
  ∀ (s : State) (xs : List Sample), s.fault = .noFault → s.busy = false →
    s.inputs = (xs.flatMap cycleWords).map eventInput →
    ∃ t, core.run (2 * xs.length) s = .next t ∧
      t.succeeded = true ∧ t.busy = false ∧
      t.trace = s.trace ++ xs.flatMap (cycleActions s.cfg.midPolicy) ∧
      t.dirOut = (xs.getLast?.map (fun x => enc (directionFromSample x s.cfg.midPolicy))).or s.dirOut ∧
      t.dutyOut = (xs.getLast?.map magnitudeFromSample).or s.dutyOut

/-- R107: while no SAMPLE_READY comes the core stays busy, through any number of events, and writes no
sink; there is no timeout. It is a hang, not a fault: with no reserved word either, `fault` is unchanged. -/
def Obligations.ConversionNeverCompletedStalls : Prop :=
  ∀ (s : State) (k : Nat), s.busy = true → k ≤ s.inputs.length →
    (∀ p ∈ s.inputs, p.bringsNoSample = true) →
    ∃ t, core.run k s = .next t ∧ t.busy = true ∧
      t.dirOut = s.dirOut ∧ t.dutyOut = s.dutyOut ∧ t.trace = s.trace ∧
      ((∀ p ∈ s.inputs, kindField p.ev ≠ 0b11#2) → t.fault = s.fault)

/-- A run succeeds exactly when the environment kept its contract: after the last event word `fault` is
NONE if and only if each sample came for a conversion in progress and no reserved word came
(`42_events.md` section 6, R80; `70_reset_and_hazards.md` section 3, R105; decisions D8, D9, D14). -/
def Obligations.RunSucceedsExactlyWhenTheContractIsKept : Prop :=
  ∀ (s : State) (evs : List EvWord), s.fault = .noFault → s.inputs = evs.map eventInput →
    ∃ t, core.run evs.length s = .next t ∧ t.ended = true ∧
      (t.succeeded = true ↔ contractKept s.busy (eventsOf evs) = true)

/-- A tick and a sample that arrive together at a busy core, in either order (`60_exceptions.md` section
3; decision D13): the same writes, but tick first leaves the core idle, and sample first leaves it busy
with one more StartConversion. -/
def Obligations.OrderOfSimultaneousEventsMatters : Prop :=
  ∀ (s : State) (x : Sample), s.fault = .noFault → s.busy = true →
    ∃ a b,
      core.run 2 { s with inputs := [eventInput (encode .tick),
                                     eventInput (encode (.sampleReady x))] } = .next a ∧
      core.run 2 { s with inputs := [eventInput (encode (.sampleReady x)),
                                     eventInput (encode .tick)] } = .next b ∧
      a.busy = false ∧ b.busy = true ∧ a.fault = .noFault ∧ b.fault = .noFault ∧
      a.dirOut = b.dirOut ∧ a.dutyOut = b.dutyOut ∧
      a.trace = s.trace ++ dispatchActions s.cfg.midPolicy x ∧
      b.trace = a.trace ++ [.startConversion]

/-- The lines of R52's table and their words (`30_encoding.md` section 4; decision D19); an operand
outside [0, 255] spells no step. -/
def Obligations.ProgramLinesSpellTheirWords : Prop :=
  (∃ w, transcribe .reset = some { rst := true, ev := w }) ∧
  transcribe .none = some { rst := false, ev := 0x000#10 } ∧
  transcribe .tick = some { rst := false, ev := 0x100#10 } ∧
  (∀ n : Nat, n ≤ 255 →
    transcribe (.sample n) = some { rst := false, ev := BitVec.ofNat 10 (0x200 + n) } ∧
    decodeWord (0x200 + n) = .ok (.sampleReady (BitVec.ofNat 8 n)) ∧
    transcribe (.rsv n) = some { rst := false, ev := BitVec.ofNat 10 (0x300 + n) } ∧
    decodeWord (0x300 + n) = .ok .reserved) ∧
  (∀ n : Nat, 255 < n → transcribe (.sample n) = none ∧ transcribe (.rsv n) = none)
end

