-- ==== Sys2Proof/Laws/Data.lean ====
section
/-! SUPPORT. What the direction encoder and the magnitude calculator give on each part of their domain, as facts about numbers. -/

namespace Sys2Proof.Machine

theorem directionFromSample_cases (x : Sample) (p : MidPolicy) :
    (x.toNat < 127 ∧ directionFromSample x p = .reverse) ∨
    (127 < x.toNat ∧ directionFromSample x p = .forward) ∨
    (x.toNat = 127 ∧ p = .neutral ∧ directionFromSample x p = .neutral) ∨
    (x.toNat = 127 ∧ p = .reverse ∧ directionFromSample x p = .reverse) := by
  rcases Nat.lt_trichotomy x.toNat 127 with h | h | h
  · left; refine ⟨h, ?_⟩; unfold directionFromSample sampleValue; rw [if_pos (by omega)]
  · right; right
    unfold directionFromSample sampleValue
    rw [if_neg (by omega), if_neg (by omega)]
    cases p <;> simp [h]
  · right; left; refine ⟨h, ?_⟩
    unfold directionFromSample sampleValue
    rw [if_neg (by omega), if_pos (by omega)]

/-- The exact value of R61 lies in [0, 254] for every sample, so its bound never changes it (R64). -/
theorem magnitudeExact_range (x : Sample) : 0 ≤ magnitudeExact x ∧ magnitudeExact x ≤ 254 := by
  have := x.isLt
  unfold magnitudeExact sampleValue
  split <;> omega

theorem clamp_of_range {lo hi t : Int} (h₀ : lo ≤ t) (h₁ : t ≤ hi) : clamp lo hi t = t := by
  unfold clamp; omega

/-- `bits[7:0]` is the library's two's complement narrowing, on every integer. -/
theorem narrowTruncate_eq_ofInt (t : Int) : narrowTruncate t = BitVec.ofInt 8 t := by
  cases t with
  | ofNat n => rfl
  | negSucc n => simp [narrowTruncate, BitVec.ofInt_negSucc_eq_not_ofNat]

theorem narrowTruncate_toNat {t : Int} (h₀ : 0 ≤ t) (h₁ : t < 256) :
    ((narrowTruncate t).toNat : Int) = t := by
  rw [narrowTruncate_eq_ofInt, BitVec.toNat_ofInt]; omega

/-- The duty written is the exact value of R61, number for number. -/
theorem magnitudeFromSample_toNat (x : Sample) :
    ((magnitudeFromSample x).toNat : Int) = magnitudeExact x := by
  obtain ⟨h₀, h₁⟩ := magnitudeExact_range x
  unfold magnitudeFromSample
  rw [clamp_of_range h₀ h₁, narrowTruncate_toNat h₀ (by omega)]

end Sys2Proof.Machine
end

