-- ==== Sys2Proof/Laws/State.lean ====
section
/-! SUPPORT. One lemma per field per state update, so that no later proof unfolds a record update. -/

namespace Sys2Proof.Machine

@[simp] theorem setBusy_busy (b : Bool) (s : State) : (setBusy b s).busy = b := rfl
@[simp] theorem setBusy_fault (b : Bool) (s : State) : (setBusy b s).fault = s.fault := rfl
@[simp] theorem setBusy_dirOut (b : Bool) (s : State) : (setBusy b s).dirOut = s.dirOut := rfl
@[simp] theorem setBusy_dutyOut (b : Bool) (s : State) : (setBusy b s).dutyOut = s.dutyOut := rfl
@[simp] theorem setBusy_trace (b : Bool) (s : State) : (setBusy b s).trace = s.trace := rfl
@[simp] theorem setBusy_cfg (b : Bool) (s : State) : (setBusy b s).cfg = s.cfg := rfl
@[simp] theorem setBusy_inputs (b : Bool) (s : State) : (setBusy b s).inputs = s.inputs := rfl
@[simp] theorem setBusy_emitted (b : Bool) (s : State) : (setBusy b s).emitted = s.emitted := rfl

@[simp] theorem record_busy (a : Action) (s : State) : (record a s).busy = s.busy := rfl
@[simp] theorem record_fault (a : Action) (s : State) : (record a s).fault = s.fault := rfl
@[simp] theorem record_dirOut (a : Action) (s : State) : (record a s).dirOut = s.dirOut := rfl
@[simp] theorem record_dutyOut (a : Action) (s : State) : (record a s).dutyOut = s.dutyOut := rfl
@[simp] theorem record_trace (a : Action) (s : State) : (record a s).trace = s.trace ++ [a] := rfl
@[simp] theorem record_cfg (a : Action) (s : State) : (record a s).cfg = s.cfg := rfl
@[simp] theorem record_inputs (a : Action) (s : State) : (record a s).inputs = s.inputs := rfl
@[simp] theorem record_emitted (a : Action) (s : State) : (record a s).emitted = s.emitted ++ [a] := rfl

@[simp] theorem emitStartConversion_busy (s : State) : (emitStartConversion s).busy = s.busy := rfl
@[simp] theorem emitStartConversion_fault (s : State) : (emitStartConversion s).fault = s.fault := rfl
@[simp] theorem emitStartConversion_dirOut (s : State) : (emitStartConversion s).dirOut = s.dirOut := rfl
@[simp] theorem emitStartConversion_dutyOut (s : State) : (emitStartConversion s).dutyOut = s.dutyOut := rfl
@[simp] theorem emitStartConversion_trace (s : State) : (emitStartConversion s).trace = s.trace ++ [.startConversion] := rfl
@[simp] theorem emitStartConversion_cfg (s : State) : (emitStartConversion s).cfg = s.cfg := rfl
@[simp] theorem emitStartConversion_inputs (s : State) : (emitStartConversion s).inputs = s.inputs := rfl
@[simp] theorem emitStartConversion_emitted (s : State) : (emitStartConversion s).emitted = s.emitted ++ [.startConversion] := rfl

@[simp] theorem emitSetDirection_busy (b : DirCode) (s : State) : (emitSetDirection b s).busy = s.busy := rfl
@[simp] theorem emitSetDirection_fault (b : DirCode) (s : State) : (emitSetDirection b s).fault = s.fault := rfl
@[simp] theorem emitSetDirection_dirOut (b : DirCode) (s : State) : (emitSetDirection b s).dirOut = some b := rfl
@[simp] theorem emitSetDirection_dutyOut (b : DirCode) (s : State) : (emitSetDirection b s).dutyOut = s.dutyOut := rfl
@[simp] theorem emitSetDirection_trace (b : DirCode) (s : State) : (emitSetDirection b s).trace = s.trace ++ [.setDirection b] := rfl
@[simp] theorem emitSetDirection_cfg (b : DirCode) (s : State) : (emitSetDirection b s).cfg = s.cfg := rfl
@[simp] theorem emitSetDirection_inputs (b : DirCode) (s : State) : (emitSetDirection b s).inputs = s.inputs := rfl
@[simp] theorem emitSetDirection_emitted (b : DirCode) (s : State) : (emitSetDirection b s).emitted = s.emitted ++ [.setDirection b] := rfl

@[simp] theorem emitSetDuty_busy (v : Duty) (s : State) : (emitSetDuty v s).busy = s.busy := rfl
@[simp] theorem emitSetDuty_fault (v : Duty) (s : State) : (emitSetDuty v s).fault = s.fault := rfl
@[simp] theorem emitSetDuty_dirOut (v : Duty) (s : State) : (emitSetDuty v s).dirOut = s.dirOut := rfl
@[simp] theorem emitSetDuty_dutyOut (v : Duty) (s : State) : (emitSetDuty v s).dutyOut = some v := rfl
@[simp] theorem emitSetDuty_trace (v : Duty) (s : State) : (emitSetDuty v s).trace = s.trace ++ [.setDuty v] := rfl
@[simp] theorem emitSetDuty_cfg (v : Duty) (s : State) : (emitSetDuty v s).cfg = s.cfg := rfl
@[simp] theorem emitSetDuty_inputs (v : Duty) (s : State) : (emitSetDuty v s).inputs = s.inputs := rfl
@[simp] theorem emitSetDuty_emitted (v : Duty) (s : State) : (emitSetDuty v s).emitted = s.emitted ++ [.setDuty v] := rfl

@[simp] theorem raiseFault_busy (r : FaultCode) (s : State) : (raiseFault r s).busy = s.busy := rfl
@[simp] theorem raiseFault_fault (r : FaultCode) (s : State) : (raiseFault r s).fault = r := rfl
@[simp] theorem raiseFault_dirOut (r : FaultCode) (s : State) : (raiseFault r s).dirOut = s.dirOut := rfl
@[simp] theorem raiseFault_dutyOut (r : FaultCode) (s : State) : (raiseFault r s).dutyOut = s.dutyOut := rfl
@[simp] theorem raiseFault_trace (r : FaultCode) (s : State) : (raiseFault r s).trace = s.trace := rfl
@[simp] theorem raiseFault_cfg (r : FaultCode) (s : State) : (raiseFault r s).cfg = s.cfg := rfl
@[simp] theorem raiseFault_inputs (r : FaultCode) (s : State) : (raiseFault r s).inputs = s.inputs := rfl
@[simp] theorem raiseFault_emitted (r : FaultCode) (s : State) : (raiseFault r s).emitted = s.emitted := rfl

@[simp] theorem resetStep_busy (s : State) : (resetStep s).busy = false := rfl
@[simp] theorem resetStep_fault (s : State) : (resetStep s).fault = .noFault := rfl
@[simp] theorem resetStep_dirOut (s : State) : (resetStep s).dirOut = none := rfl
@[simp] theorem resetStep_dutyOut (s : State) : (resetStep s).dutyOut = none := rfl
@[simp] theorem resetStep_trace (s : State) : (resetStep s).trace = [] := rfl
@[simp] theorem resetStep_cfg (s : State) : (resetStep s).cfg = s.cfg := rfl
@[simp] theorem resetStep_inputs (s : State) : (resetStep s).inputs = s.inputs := rfl
@[simp] theorem resetStep_emitted (s : State) : (resetStep s).emitted = [] := rfl

@[simp] theorem beginStep_busy (s : State) : (beginStep s).busy = s.busy := rfl
@[simp] theorem beginStep_fault (s : State) : (beginStep s).fault = s.fault := rfl
@[simp] theorem beginStep_dirOut (s : State) : (beginStep s).dirOut = s.dirOut := rfl
@[simp] theorem beginStep_dutyOut (s : State) : (beginStep s).dutyOut = s.dutyOut := rfl
@[simp] theorem beginStep_trace (s : State) : (beginStep s).trace = s.trace := rfl
@[simp] theorem beginStep_cfg (s : State) : (beginStep s).cfg = s.cfg := rfl
@[simp] theorem beginStep_inputs (s : State) : (beginStep s).inputs = s.inputs.tail := rfl
@[simp] theorem beginStep_emitted (s : State) : (beginStep s).emitted = [] := rfl

@[simp] theorem present_busy (p : PortIn) (s : State) : (present p s).busy = s.busy := rfl
@[simp] theorem present_fault (p : PortIn) (s : State) : (present p s).fault = s.fault := rfl
@[simp] theorem present_dirOut (p : PortIn) (s : State) : (present p s).dirOut = s.dirOut := rfl
@[simp] theorem present_dutyOut (p : PortIn) (s : State) : (present p s).dutyOut = s.dutyOut := rfl
@[simp] theorem present_trace (p : PortIn) (s : State) : (present p s).trace = s.trace := rfl
@[simp] theorem present_cfg (p : PortIn) (s : State) : (present p s).cfg = s.cfg := rfl
@[simp] theorem present_inputs (p : PortIn) (s : State) : (present p s).inputs = p :: s.inputs := rfl
@[simp] theorem present_emitted (p : PortIn) (s : State) : (present p s).emitted = s.emitted := rfl

@[simp] theorem launch_busy (cfg : Config) (evs : List EvWord) : (State.launch cfg evs).busy = false := rfl
@[simp] theorem launch_fault (cfg : Config) (evs : List EvWord) : (State.launch cfg evs).fault = .noFault := rfl
@[simp] theorem launch_dirOut (cfg : Config) (evs : List EvWord) : (State.launch cfg evs).dirOut = none := rfl
@[simp] theorem launch_dutyOut (cfg : Config) (evs : List EvWord) : (State.launch cfg evs).dutyOut = none := rfl
@[simp] theorem launch_trace (cfg : Config) (evs : List EvWord) : (State.launch cfg evs).trace = [] := rfl
@[simp] theorem launch_cfg (cfg : Config) (evs : List EvWord) : (State.launch cfg evs).cfg = cfg := rfl
@[simp] theorem launch_inputs (cfg : Config) (evs : List EvWord) : (State.launch cfg evs).inputs = evs.map eventInput := rfl
@[simp] theorem launch_emitted (cfg : Config) (evs : List EvWord) : (State.launch cfg evs).emitted = [] := rfl

end Sys2Proof.Machine
end

