-- ==== Sys2Proof/Laws/Ops.lean ====
section
/-! SUPPORT. One lemma per shared operation: everything it can do. -/

namespace Sys2Proof.Machine

/-- An event step answers its rule's state, or the same state where the core is faulted; it never stops. -/
theorem eventStep_eq (rule : State → State) (s : State) :
    eventStep rule s = .next (if s.fault = .noFault then rule s else s) := by
  unfold eventStep; split <;> rfl

theorem onTick_of_idle {s : State} (h : s.busy = false) :
    onTick s = emitStartConversion (setBusy true s) := by simp [onTick, h]

theorem onTick_of_busy {s : State} (h : s.busy = true) : onTick s = s := by simp [onTick, h]

theorem onSampleReady_of_busy {s : State} (h : s.busy = true) (x : Sample) :
    onSampleReady x s = dispatchSample x s := by simp [onSampleReady, h]

theorem onSampleReady_of_idle {s : State} (h : s.busy = false) (x : Sample) :
    onSampleReady x s = raiseFault .spuriousSample s := by simp [onSampleReady, h]

theorem nextInput_cons {s : State} {p : PortIn} {ps : List PortIn} (h : s.inputs = p :: ps) :
    nextInput s = p := by simp [nextInput, h]

theorem nextInput_nil {s : State} (h : s.inputs = []) : nextInput s = idleInput := by
  simp [nextInput, h]

@[simp] theorem eventInput_rst (w : EvWord) : (eventInput w).rst = false := rfl

@[simp] theorem eventInput_ev (w : EvWord) : (eventInput w).ev = w := rfl

/-- Taking the input that was presented gives back the state it was presented to. -/
theorem beginStep_present (p : PortIn) (s : State) :
    beginStep (present p s) = { s with emitted := [] } := rfl

end Sys2Proof.Machine
end

