-- ==== Sys2Proof/Laws/PerInstr.lean ====
section
/-! SUPPORT. What holds of every event kind as syntax, one lemma per constructor of `Instr`. -/

/-- The two fields of an event's word are its kind and its data (R39), and the event needs no check. -/
def Sys2Proof.Laws.WordFields.Statement (i : Sys2Proof.Instr) : Prop :=
  Sys2Proof.kindField (Sys2Proof.encode i) = i.kind ∧
  Sys2Proof.dataField (Sys2Proof.encode i) = i.data ∧ i.wellFormed = true

theorem Sys2Proof.Laws.WordFields.none :
    Sys2Proof.Laws.WordFields.Statement .none := ⟨by decide, by decide, rfl⟩

theorem Sys2Proof.Laws.WordFields.tick :
    Sys2Proof.Laws.WordFields.Statement .tick := ⟨by decide, by decide, rfl⟩

theorem Sys2Proof.Laws.WordFields.sampleReady (x : Sys2Proof.Sample) :
    Sys2Proof.Laws.WordFields.Statement (.sampleReady x) := by
  refine ⟨?_, ?_, rfl⟩ <;>
  · simp only [Sys2Proof.kindField, Sys2Proof.dataField, Sys2Proof.encode, Sys2Proof.Instr.kind,
      Sys2Proof.Instr.data]
    revert x; decide

theorem Sys2Proof.Laws.WordFields.reserved :
    Sys2Proof.Laws.WordFields.Statement .reserved := ⟨by decide, by decide, rfl⟩
end

