-- ==== Sys2Proof/Laws/Ports.lean ====
section
/-! SUPPORT. What each action shows on the ports, and when it is legal, one lemma per constructor. -/

namespace Sys2Proof.Machine

@[simp] theorem isStart_startConversion : Action.isStart .startConversion = true := rfl
@[simp] theorem isStart_setDirection (b : DirCode) : Action.isStart (.setDirection b) = false := rfl
@[simp] theorem isStart_setDuty (v : Duty) : Action.isStart (.setDuty v) = false := rfl

@[simp] theorem code?_startConversion : Action.code? .startConversion = none := rfl
@[simp] theorem code?_setDirection (b : DirCode) : Action.code? (.setDirection b) = some b := rfl
@[simp] theorem code?_setDuty (v : Duty) : Action.code? (.setDuty v) = none := rfl

@[simp] theorem duty?_startConversion : Action.duty? .startConversion = none := rfl
@[simp] theorem duty?_setDirection (b : DirCode) : Action.duty? (.setDirection b) = none := rfl
@[simp] theorem duty?_setDuty (v : Duty) : Action.duty? (.setDuty v) = some v := rfl

@[simp] theorem legalAction_startConversion : legalAction .startConversion = true := rfl
@[simp] theorem legalAction_setDirection (b : DirCode) :
    legalAction (.setDirection b) = legalCode b := rfl
@[simp] theorem legalAction_setDuty (v : Duty) : legalAction (.setDuty v) = legalDuty v := rfl

/-- A step without an action drives no strobe. -/
theorem ports_of_silent {s : State} (h : s.emitted = []) :
    s.ports = { startConv := 0, dirWe := 0, dir := none, dutyWe := 0, duty := none,
                busy := busyPort s, fault := faultPort s } := by
  simp [State.ports, h, portBit]

/-- A conversion start drives START_CONV alone. -/
theorem ports_of_start {s : State} (h : s.emitted = [.startConversion]) :
    s.ports = { startConv := 1, dirWe := 0, dir := none, dutyWe := 0, duty := none,
                busy := busyPort s, fault := faultPort s } := by
  simp [State.ports, h, portBit]

/-- A dispatch drives both write strobes, each with its value. -/
theorem ports_of_dispatch {s : State} {b : DirCode} {v : Duty}
    (h : s.emitted = [.setDirection b, .setDuty v]) :
    s.ports = { startConv := 0, dirWe := 1, dir := some b, dutyWe := 1, duty := some v,
                busy := busyPort s, fault := faultPort s } := by
  simp [State.ports, h, portBit, List.findSome?]

end Sys2Proof.Machine
end

