-- ==== Sys2Proof/Laws/Step.lean ====
section
/-! SUPPORT. Everything an event and a step can do, said once, and how a run unfolds. -/

namespace Sys2Proof.Machine

/-- What the rule of an event makes of a state that is not faulted (R68). -/
def eventRule : Instr → State → State
  | .none => fun s => s
  | .tick => onTick
  | .sampleReady x => onSampleReady x
  | .reserved => raiseFault .reservedEvent

/-- Every event answers a next state: its rule's, or the same one where the core is faulted. -/
theorem exec_eq (i : Instr) (s : State) :
    exec i s = .next (if s.fault = .noFault then eventRule i s else s) := by
  cases i with
  | none => exact eventStep_eq (fun s => s) s
  | tick => exact eventStep_eq onTick s
  | sampleReady x => exact eventStep_eq (onSampleReady x) s
  | reserved => exact eventStep_eq (raiseFault .reservedEvent) s

/-- The state a step leads to. -/
def afterStep (s : State) : State :=
  if (nextInput s).rst then resetStep (beginStep s)
  else if s.fault = .noFault then eventRule (decodeEvent (nextInput s).ev) (beginStep s)
  else beginStep s

/-- Every step answers a next state. -/
theorem step_eq (s : State) : step s = .next (afterStep s) := by
  unfold step afterStep
  split
  · rfl
  · rw [exec_eq]; rfl

theorem step_eq_next {s t : State} : step s = .next t ↔ t = afterStep s := by
  rw [step_eq]
  exact ⟨fun h => by injection h with h; exact h.symm, fun h => by rw [h]⟩

/-- A reset step is taken whatever else the state holds. -/
theorem afterStep_of_reset {s : State} (h : (nextInput s).rst = true) :
    afterStep s = resetStep (beginStep s) := by simp [afterStep, h]

/-- A faulted core only takes its input (R69). -/
theorem afterStep_of_faulted {s : State} (h : (nextInput s).rst = false) (hf : s.fault ≠ .noFault) :
    afterStep s = beginStep s := by simp [afterStep, h, hf]

/-- A core that is not faulted runs the decoded event's rule (R68). -/
theorem afterStep_of_event {s : State} (h : (nextInput s).rst = false) (hf : s.fault = .noFault) :
    afterStep s = eventRule (decodeEvent (nextInput s).ev) (beginStep s) := by
  simp [afterStep, h, hf]

theorem run_zero (s : State) : Sys2Proof.core.run 0 s = .next s := rfl

theorem run_succ (k : Nat) (s : State) :
    Sys2Proof.core.run (k + 1) s = Sys2Proof.core.run k (afterStep s) := by
  have h : Sys2Proof.core.step s = .next (afterStep s) := step_eq s
  simp only [Host.Core.run, h]

/-- A property that every step keeps holds after any number of steps. -/
theorem run_keeps {P : State → Prop} (hP : ∀ s, P s → P (afterStep s)) (k : Nat) {s t : State}
    (hs : P s) (h : Sys2Proof.core.run k s = .next t) : P t := by
  induction k generalizing s with
  | zero => rw [run_zero] at h; injection h with h; exact h ▸ hs
  | succ k ih => rw [run_succ] at h; exact ih (hP s hs) h

end Sys2Proof.Machine
end

