-- ==== Sys2Proof/Tests/Slice0.lean ====
section
/-! SUPPORT. Small tests with expected values from `95_test_vectors.md` and the rules' worked examples, and a witness for the hypotheses of every statement that has some. -/

namespace Sys2Proof.Tests

open Sys2Proof Sys2Proof.Machine

/-- A core with the given flag and fault, else as after reset, that is presented `ps`. -/
def core0 (busy : Bool) (fault : FaultCode) (ps : List PortIn) : State :=
  { State.reset with busy := busy, fault := fault, inputs := ps }

/-- The same core under MID_POLICY = REVERSE. -/
def underReverse (s : State) : State := s.withCfg { s.cfg with midPolicy := .reverse }

/-- One thing about the next state, if there is one. -/
def seen {α : Type} (f : State → α) : Host.Outcome State Fault Refusal → Option α
  | .next s => some (f s)
  | .fault _ => none
  | .refused _ => none

/-! ### What the checks refuse (R39, R52) -/

theorem test_ill_formed_word_refused : isEventWord 1024 = false ∧ isEventWord 1023 = true := by
  decide

theorem test_ill_formed_numeral_refused :
    isOperandNumeral 256 = false ∧ ProgLine.wellFormed (.sample 256) = false ∧
    ProgLine.wellFormed (.rsv 256) = false ∧ ProgLine.wellFormed (.sample 255) = true := by decide

theorem test_every_instr_well_formed : ∀ i : Instr, i.wellFormed = true := by
  intro i; cases i <;> rfl

/-! ### Words written out from R39 and R40 -/

theorem test_decode_none : decodeEvent 0b00_00000000#10 = .none := by decide
theorem test_decode_tick : decodeEvent 0b01_00000000#10 = .tick := by decide
theorem test_decode_sample : decodeEvent 0b10_11001000#10 = .sampleReady 200 := by decide
theorem test_decode_reserved : decodeEvent 0b11_01010101#10 = .reserved := by decide

theorem test_encode_as_assembled : -- the words of R52
    encode .none = 0x000#10 ∧ encode .tick = 0x100#10 ∧ encode (.sampleReady 0x7F) = 0x27F#10 ∧
    encode .reserved = 0x300#10 := by decide

theorem test_table_words :
    decodeTableWord 16 0x000 = some .none ∧ decodeTableWord 16 0x100 = some .tick ∧
    decodeTableWord 10 0x240 = some (.sampleReady 64) ∧ decodeTableWord 16 0x300 = some .reserved ∧
    decodeTableWord 16 0x400 = none := by decide

theorem test_first_step_after_reset : -- each row runs as the first event after reset
    seen State.fault (step (State.reset.withFetchWord 16 0x000)) = some .noFault ∧
    seen State.busy (step (State.reset.withFetchWord 16 0x100)) = some true ∧
    seen State.fault (step (State.reset.withFetchWord 16 0x240)) = some .spuriousSample ∧
    seen State.fault (step (State.reset.withFetchWord 16 0x300)) = some .reservedEvent := by decide

/-! ### The two functions, on the literal scenarios of section 1.2 -/

theorem test_magnitudes :
    [0, 1, 2, 125, 126, 127, 128, 129, 130, 253, 254, 255].map magnitudeFromSample
      = [254, 252, 250, 4, 2, 0, 0, 2, 4, 250, 252, 254] := by decide

theorem test_directions :
    [0, 1, 126, 127, 128, 255].map (directionFromSample · .neutral)
      = [.reverse, .reverse, .reverse, .neutral, .forward, .forward] ∧
    [0, 1, 126, 127, 128, 255].map (directionFromSample · .reverse)
      = [.reverse, .reverse, .reverse, .reverse, .forward, .forward] := by decide

/-! ### The event steps of section 2.4 -/

theorem test_none_keeps_busy : -- E1, E2
    seen State.busy (exec .none (core0 false .noFault [])) = some false ∧
    seen State.busy (exec .none (core0 true .noFault [])) = some true := by decide

theorem test_tick_idle_with_data : -- E4
    seen (fun s => (s.busy, s.trace, s.ports.startConv))
      (step (core0 false .noFault [eventInput 0x1FF])) = some (true, [.startConversion], 1) := by
  decide

theorem test_tick_busy : -- E5
    seen (fun s => (s.busy, s.trace)) (exec .tick (core0 true .noFault [])) = some (true, []) := by
  decide

theorem test_sample_midpoint_both_policies : -- E7, E8
    seen State.trace (step (core0 true .noFault [eventInput 0x27F]))
      = some [.setDirection 0b00, .setDuty 0] ∧
    seen State.trace (step (underReverse (core0 true .noFault [eventInput 0x27F])))
      = some [.setDirection 0b10, .setDuty 0] := by decide

theorem test_sample_repeat_write : -- the repeat-write vector, and E6's and E10's codes
    seen (fun s => (s.dirOut, s.dutyOut, s.trace, s.busy))
      (exec (.sampleReady 192)
        { core0 true .noFault [] with dirOut := some 0b01, dutyOut := some 128 })
      = some (some 0b01, some 128, [.setDirection 0b01, .setDuty 128], false) := by decide

theorem test_reserved : -- E12, E13
    seen (fun s => (s.busy, s.fault)) (exec .reserved (core0 false .noFault []))
      = some (false, .reservedEvent) ∧
    seen (fun s => (s.busy, s.fault)) (step (core0 true .noFault [eventInput 0x3FF]))
      = some (true, .reservedEvent) := by decide

theorem test_faulted_ignores : -- E14, E15
    seen (fun s => (s.busy, s.fault, s.trace)) (exec .tick (core0 false .spuriousSample []))
      = some (false, .spuriousSample, []) ∧
    seen (fun s => (s.busy, s.dutyOut)) (exec (.sampleReady 3) (core0 true .reservedEvent []))
      = some (true, none) := by decide

theorem test_reset_step : -- E16
    seen (fun s => (s.busy, s.fault, s.dirOut, s.trace))
      (step { core0 true .reservedEvent [{ rst := true, ev := 0x27F }] with
        dirOut := some 0b10, trace := [.startConversion] })
      = some (false, .noFault, none, []) := by decide

/-! ### The assembler of R52 -/

theorem test_assemble_lines :
    numeralValue "0xfF".toList = some 255 ∧ numeralValue "0x0A".toList = some 10 ∧
    assembleText "reset\ntick # start\n\n  sample 0x40\nonSampleReady(127)\nrsv 255\nonTick()\nnone"
      = some [resetInput, eventInput 0x100, eventInput 0x240, eventInput 0x27F, eventInput 0x3FF,
              eventInput 0x100, eventInput 0x000] := by decide

theorem test_assemble_refuses :
    assembleLine "sample 256".toList = none ∧ assembleLine "sample".toList = none ∧
    assembleLine "rsv 0x1G".toList = none ∧ assembleLine "rsv 0x".toList = none ∧
    assembleLine "sample 1A".toList = none ∧ assembleLine "jump 3".toList = none ∧
    assembleLine "onSampleReady()".toList = none ∧ assembleLine "onSampleReady(".toList = none := by decide

/-! ### Witnesses: the hypotheses of each statement, met together -/

theorem test_witness_EncodeRestoresTheWordRead :
    decodeEvent 0x1FF = .tick ∧ decodeEvent 0x2FF = .sampleReady 255 := by decide

theorem test_witness_DecodingReadsKindAndSampleOnly :
    kindField 0x2FF = 0b10#2 ∧ kindField 0x000 ≠ 0b10#2 := by decide

theorem test_witness_WiderNumbersAreNoEventWords : (1023 < 1024) ∧ (1024 ≤ 1024) := by decide

theorem test_witness_StepRunsTheDecodedEvent :
    (core0 true .noFault [eventInput 0x240]).inputs = eventInput 0x240 :: [] ∧
    decodeTableWord 16 0x2FF = some (.sampleReady 255) := by decide

theorem test_witness_NothingPresentedIsTheEmptyStep : (core0 true .noFault []).inputs = [] := by
  decide

theorem test_witness_ResetStepClearsEverything :
    (core0 true .reservedEvent [{ rst := true, ev := 0x3FF }, eventInput 0x100]).inputs
      = { rst := true, ev := 0x3FF } :: [0x100#10].map eventInput := by decide

theorem test_witness_NoneDoesNothing :
    (core0 true .noFault [eventInput 0x0FF]).inputs = eventInput (0b00#2 ++ 0xFF#8) :: [] := by decide

theorem test_witness_TickStartsAConversionWhenIdle :
    (core0 false .noFault [eventInput 0x1FF]).fault = .noFault ∧
    (core0 false .noFault [eventInput 0x1FF]).busy = false ∧
    (core0 false .noFault [eventInput 0x1FF]).inputs = eventInput (0b01#2 ++ 0xFF#8) :: [] := by
  decide

/-- A busy core that is presented three ticks. -/
def busyTicked : State := core0 true .noFault [eventInput 0x100, eventInput 0x1FF, eventInput 0x100]

theorem test_witness_TickWhileBusyIsDropped :
    busyTicked.fault = .noFault ∧ busyTicked.busy = true ∧
    busyTicked.inputs = eventInput (0b01#2 ++ 0#8) :: [eventInput 0x1FF, eventInput 0x100] ∧
    busyTicked.inputs = ([0#8, 0xFF#8, 0#8].map fun d => eventInput (0b01#2 ++ d)) ++ [] := by decide

theorem test_witness_TickAfterDispatch :
    busyTicked.fault = .noFault ∧ busyTicked.busy = true ∧
    exec (.sampleReady 255) busyTicked = .next (dispatchSample 255 busyTicked) := ⟨rfl, rfl, rfl⟩

/-- A busy core that is presented the sample `x`. -/
def busySampled (x : Sample) : State := core0 true .noFault [eventInput (0b10#2 ++ x)]

theorem test_witness_SampleDispatchesWhileBusy : -- also CombinationalForms…, DirectionCode…, OrderOf…
    (∀ x ∈ [0, 64, 127, 128, 255], (busySampled x).fault = .noFault ∧ (busySampled x).busy = true ∧
      (busySampled x).inputs = eventInput (0b10#2 ++ x) :: [] ∧
      seen State.busy (exec (.sampleReady x) (busySampled x)) = some false) ∧
    (busySampled 127).cfg.midPolicy = .neutral ∧
    (underReverse (busySampled 127)).cfg.midPolicy = .reverse := by decide

theorem test_witness_SampleWhileIdleRaisesSpuriousSample :
    (core0 false .noFault []).fault = .noFault ∧ (core0 false .noFault []).busy = false := by decide

theorem test_witness_ReservedEventRaisesItsFault :
    (core0 true .noFault [eventInput 0x3FF]).fault = .noFault ∧
    (core0 true .noFault [eventInput 0x3FF]).inputs = eventInput (0b11#2 ++ 0xFF#8) :: [] := by decide

/-- A faulted core that is presented two events, and one that is presented a reset step. -/
def faultedCore (ps : List PortIn) : State := core0 true .spuriousSample ps

theorem test_witness_FaultedCoreIsQuiescent :
    (faultedCore [eventInput 0x100, eventInput 0x205]).fault ≠ .noFault ∧
    1 < (faultedCore [eventInput 0x100, eventInput 0x205]).inputs.length ∧
    (∀ p ∈ (faultedCore [eventInput 0x100, eventInput 0x205]).inputs.take 2, p.isEvent = true) ∧
    (faultedCore [resetInput]).fault ≠ .noFault ∧
    (nextInput (faultedCore [resetInput])).rst = true := by decide

theorem test_witness_DirectionSplitsAt127 :
    (126#8).toNat < 127 ∧ 127 < (128#8).toNat := by decide

theorem test_witness_MagnitudeHalvesFollowTheirFormulas :
    (127#8).toNat < 128 ∧ 128 ≤ (128#8).toNat ∧
    ((127#8).toNat = (126#8).toNat + 1 ∧ (127#8).toNat < 128) ∧
    ((129#8).toNat = (128#8).toNat + 1 ∧ 128 ≤ (128#8).toNat) := by decide

theorem test_witness_MagnitudeIsAnExactV :
    ((126#8).toNat < (127#8).toNat ∧ (127#8).toNat < 128) ∧
    (128 ≤ (128#8).toNat ∧ (128#8).toNat < (129#8).toNat) ∧ (127 ≤ 127 ∧ 0 ≤ 127) := by decide

theorem test_witness_EventsFollowTheStateDiagram :
    (core0 false .noFault []).fault = .noFault ∧ (core0 false .noFault []).busy = false ∧
    (core0 true .noFault []).fault = .noFault ∧ (core0 true .noFault []).busy = true := by decide

theorem test_witness_EventsChangeNothingElse :
    exec .tick (core0 false .noFault [])
      = .next { core0 true .noFault [] with
          trace := [.startConversion], emitted := [.startConversion] } ∧
    exec (.sampleReady 10) (core0 false .noFault []) = .next (core0 false .spuriousSample []) ∧
    exec .reserved (core0 true .noFault []) = .next (core0 true .reservedEvent []) ∧
    exec .none (core0 true .noFault []) = .next (core0 true .noFault []) := ⟨rfl, rfl, rfl, rfl⟩

theorem test_witness_PortsShowTheStep :
    seen (fun s => (s.ports.startConv, s.ports.dirWe, s.ports.fault))
      (step (core0 false .noFault [eventInput 0x100])) = some (1, 0, 0) ∧
    seen (fun s => (s.ports.startConv, s.ports.dirWe, s.ports.dir))
      (step (busySampled 255)) = some (0, 1, some 0b01) ∧
    seen (fun s => s.ports.fault) (step (core0 false .noFault [eventInput 0x205])) = some 0b10 ∧
    seen (fun s => (s.emitted, s.ports.fault)) (step (faultedCore [resetInput])) = some ([], 0) := by
  decide

theorem test_witness_ParametersDecideOnlyTheMidpoint :
    ({ midPolicy := .neutral, tickPeriod := 7 } : Config).midPolicy = (busySampled 127).cfg.midPolicy ∧
    ((nextInput (busySampled 128)).isEvent = true ∧
      decodeEvent (nextInput (busySampled 128)).ev ≠ .sampleReady 127) := by decide

theorem test_witness_ParametersAtTheMidpoint : -- a dispatch of 127, and an idle and a faulted core
    (∀ s ∈ [busySampled 127, { busySampled 127 with busy := false },
        { busySampled 127 with fault := .reservedEvent }],
      (nextInput s).isEvent = true ∧ decodeEvent (nextInput s).ev = .sampleReady 127) ∧
    (busySampled 127).busy = true ∧ (busySampled 127).fault = .noFault := by decide

theorem test_witness_DispatchDependsOnSampleAndPolicyOnly :
    (busySampled 3).fault = .noFault ∧ (busySampled 3).busy = true ∧
    busyTicked.fault = .noFault ∧ busyTicked.busy = true ∧
    (busySampled 3).cfg.midPolicy = busyTicked.cfg.midPolicy ∧
    seen State.dutyOut (exec (.sampleReady 3) (busySampled 3)) = some (some 248) ∧
    seen State.dutyOut (exec (.sampleReady 3) busyTicked) = some (some 248) := by decide

theorem test_witness_OnlyResetClearsAFault :
    (faultedCore [resetInput]).fault ≠ .noFault ∧
    seen State.fault (step (faultedCore [resetInput])) = some .noFault := by decide

/-- A state in the middle of a launch: the sample 64 dispatched and one more conversion started. -/
def midLaunch : State :=
  { core0 true .noFault [eventInput 0x2FF] with
    dirOut := some 0b10, dutyOut := some 126
    trace := [.startConversion, .setDirection 0b10, .setDuty 126, .startConversion] }

theorem test_witness_StepKeepsTheStateAccountedFor :
    Accounted midLaunch ∧ step midLaunch = .next (afterStep midLaunch) :=
  ⟨⟨[64], by decide, by decide, by decide⟩, step_eq _⟩

theorem test_witness_StepKeepsTheWriteCounts :
    startCount midLaunch.trace = dutyCount midLaunch.trace + midLaunch.busy.toNat ∧
    directionCount midLaunch.trace = dutyCount midLaunch.trace := by decide

theorem test_witness_StepKeepsTheOutputsLegal :
    midLaunch.dirOut.all legalCode = true ∧ midLaunch.dutyOut.all legalDuty = true ∧
    midLaunch.trace.all legalAction = true ∧ midLaunch.emitted.all legalAction = true := by decide

theorem test_witness_EveryReachedTraceHasTheCycleShape :
    core.run 1 { State.reset with cfg := Config.reference, inputs := [eventInput 0x100] }
      = .next (afterStep { State.reset with cfg := Config.reference, inputs := [eventInput 0x100] }) :=
  run_succ 0 _

theorem test_shape_refuses_unfinished_dispatch :
    traceShape [.startConversion, .setDirection 0b01] = false ∧
    traceShape [.setDirection 0b01, .setDuty 0] = false ∧
    traceShape midLaunch.trace = true := by decide

theorem test_witness_TickAndSampleCyclesDispatchEverySample :
    (core0 false .noFault (([0, 255].flatMap cycleWords).map eventInput)).fault = .noFault ∧
    (core0 false .noFault (([0, 255].flatMap cycleWords).map eventInput)).busy = false ∧
    (core0 false .noFault (([0, 255].flatMap cycleWords).map eventInput)).inputs
      = [eventInput 0x100, eventInput 0x200, eventInput 0x100, eventInput 0x2FF] := by decide

theorem test_witness_ConversionNeverCompletedStalls :
    (busyTicked.busy = true ∧ 3 ≤ busyTicked.inputs.length ∧
      (∀ p ∈ busyTicked.inputs, p.bringsNoSample = true) ∧
      (∀ p ∈ busyTicked.inputs, kindField p.ev ≠ 0b11#2)) ∧
    (PortIn.bringsNoSample (eventInput 0x300) = true ∧
      PortIn.bringsNoSample (eventInput 0x200) = false ∧
      PortIn.bringsNoSample resetInput = false) := by decide

theorem test_witness_RunSucceedsExactlyWhenTheContractIsKept :
    (core0 false .noFault [eventInput 0x100, eventInput 0x27F]).fault = .noFault ∧
    (core0 false .noFault [eventInput 0x100, eventInput 0x27F]).inputs
      = [0x100#10, 0x27F#10].map eventInput ∧
    contractKept false (eventsOf [0x100#10, 0x27F#10]) = true ∧
    contractKept false (eventsOf [0x100#10, 0x27F#10, 0x27F#10]) = false ∧
    contractKept true (eventsOf [0x355#10]) = false := by decide

theorem test_witness_ProgramLinesSpellTheirWords : 255 ≤ 255 ∧ 255 < 256 := by decide

end Sys2Proof.Tests
end

namespace Sys2Proof.Machine

/-- R55, from the encoder's one case lemma: below 127 the other three cases are out of range. -/
theorem directionFromSample_of_lt {x : Sample} {p : MidPolicy} (h : x.toNat < 127) :
    directionFromSample x p = .reverse := by
  obtain ⟨_, hd⟩ | ⟨hx, _⟩ | ⟨hx, _⟩ | ⟨hx, _⟩ := directionFromSample_cases x p
  · exact hd
  all_goals omega

/-- R56, from the encoder's one case lemma: above 127 the other three cases are out of range. -/
theorem directionFromSample_of_gt {x : Sample} {p : MidPolicy} (h : 127 < x.toNat) :
    directionFromSample x p = .forward := by
  obtain ⟨hx, _⟩ | ⟨_, hd⟩ | ⟨hx, _⟩ | ⟨hx, _⟩ := directionFromSample_cases x p
  · omega
  · exact hd
  all_goals omega

/-- Settles O16: R55 and R56 for every sample; the quoted scenarios are instances of the two rules. -/
theorem directionSplitsAt127 : Obligations.DirectionSplitsAt127 := by
  refine ⟨fun _ _ => directionFromSample_of_lt, fun _ _ => directionFromSample_of_gt, fun _ =>
    ⟨directionFromSample_of_lt ?_, directionFromSample_of_lt ?_, directionFromSample_of_gt ?_,
      directionFromSample_of_gt ?_, directionFromSample_of_gt ?_⟩⟩
  all_goals decide

end Sys2Proof.Machine

namespace Sys2Proof.Machine

/-- R62: the low half's branch of R61, as the number the duty is. -/
theorem magnitudeFromSample_low {x : Sample} (h : x.toNat < 128) :
    ((magnitudeFromSample x).toNat : Int) = 254 - 2 * (x.toNat : Int) := by
  rw [magnitudeFromSample_toNat, magnitudeExact, sampleValue, if_pos (by omega)]

/-- R63: the high half's branch of R61, as the number the duty is. -/
theorem magnitudeFromSample_high {x : Sample} (h : 128 ≤ x.toNat) :
    ((magnitudeFromSample x).toNat : Int) = 2 * ((x.toNat : Int) - 128) := by
  rw [magnitudeFromSample_toNat, magnitudeExact, sampleValue, if_neg (by omega)]

/-- Settles O18: R62 and R63 are the two branches of R61; a step of 2 is one formula at two neighbours. -/
theorem magnitudeHalvesFollowTheirFormulas : Obligations.MagnitudeHalvesFollowTheirFormulas := by
  refine ⟨fun _ => magnitudeFromSample_low, fun _ => magnitudeFromSample_high,
    by decide, by decide, by decide, by decide, fun x y hxy hy => ?low, fun x y hxy hx => ?high⟩
  case low =>
    have hmx := magnitudeFromSample_low (x := x) (by omega)
    have hmy := magnitudeFromSample_low hy
    omega
  case high =>
    have hmx := magnitudeFromSample_high hx
    have hmy := magnitudeFromSample_high (x := y) (by omega)
    omega

end Sys2Proof.Machine

namespace Sys2Proof.Machine

/-! The words of an event step, and what a step does with the word presented (R39, R68). -/

theorem kindField_append (k : Kind) (d : Data) : kindField (k ++ d) = k :=
  BitVec.extractLsb'_append_eq_left

theorem dataField_append (k : Kind) (d : Data) : dataField (k ++ d) = d :=
  BitVec.extractLsb'_append_eq_right

/-- A word of KIND 0b01 is a TICK, with any DATA (R42). -/
theorem decodeEvent_tickWord (d : Data) : decodeEvent (0b01#2 ++ d) = .tick := by
  simp [decodeEvent, kindField_append]

/-- A word of KIND 0b10 is a SAMPLE_READY of its DATA (R41). -/
theorem decodeEvent_sampleWord (x : Sample) : decodeEvent (0b10#2 ++ x) = .sampleReady x := by
  simp [decodeEvent, kindField_append, dataField_append]

theorem beginStep_of_cons {s : State} {p : PortIn} {rest : List PortIn} (h : s.inputs = p :: rest) :
    beginStep s = { s with inputs := rest, emitted := [] } := by
  simp [beginStep, h]

/-- An event step runs the event of the word presented, on the state whose input is taken. -/
theorem step_of_eventInput {s : State} {w : EvWord} {rest : List PortIn}
    (h : s.inputs = eventInput w :: rest) : step s = exec (decodeEvent w) (beginStep s) := by
  simp [step, nextInput_cons h]

end Sys2Proof.Machine

namespace Sys2Proof.Machine

/-! What an event makes of a core: R69 for a faulted one, R71 to R73 for one that is not. -/

theorem exec_of_faulted {s : State} (hf : s.fault ≠ .noFault) (i : Instr) : exec i s = .next s := by
  rw [exec_eq, if_neg hf]

theorem exec_of_noFault {s : State} (hf : s.fault = .noFault) (i : Instr) :
    exec i s = .next (eventRule i s) := by
  rw [exec_eq, if_pos hf]

/-- R71: an idle trigger starts a conversion. -/
theorem exec_tick_of_idle {s : State} (hf : s.fault = .noFault) (hb : s.busy = false) :
    exec .tick s = .next { s with
      busy := true
      trace := s.trace ++ [.startConversion]
      emitted := s.emitted ++ [.startConversion] } := by
  rw [exec_of_noFault hf, eventRule, onTick_of_idle hb]
  rfl

/-- R72: a busy trigger drops the tick. -/
theorem exec_tick_of_busy {s : State} (hf : s.fault = .noFault) (hb : s.busy = true) :
    exec .tick s = .next s := by
  rw [exec_of_noFault hf, eventRule, onTick_of_busy hb]

/-- R73: a sample that was waited for is dispatched. -/
theorem exec_sampleReady_of_busy {s : State} (hf : s.fault = .noFault) (hb : s.busy = true)
    (x : Sample) : exec (.sampleReady x) s = .next (dispatchSample x s) := by
  rw [exec_of_noFault hf, eventRule, onSampleReady_of_busy hb]

/-- The dispatch of R73, field by field: two writes on record, direction first, and idle after them. -/
theorem dispatchSample_eq (x : Sample) (s : State) :
    dispatchSample x s = { s with
      busy := false
      dirOut := some (enc (directionFromSample x s.cfg.midPolicy))
      dutyOut := some (magnitudeFromSample x)
      trace := s.trace ++ dispatchActions s.cfg.midPolicy x
      emitted := s.emitted ++ dispatchActions s.cfg.midPolicy x } := by
  simp [dispatchSample, setBusy, emitSetDuty, emitSetDirection, record, dispatchActions]

@[simp] theorem dispatchSample_dirOut (x : Sample) (s : State) :
    (dispatchSample x s).dirOut = some (enc (directionFromSample x s.cfg.midPolicy)) := rfl

@[simp] theorem dispatchSample_dutyOut (x : Sample) (s : State) :
    (dispatchSample x s).dutyOut = some (magnitudeFromSample x) := rfl

end Sys2Proof.Machine

namespace Sys2Proof.Machine

/-! The sampling trigger (R71, R72): steps that are presented a TICK word. -/

theorem step_tickWord_of_idle {s : State} {d : Data} {rest : List PortIn}
    (hf : s.fault = .noFault) (hb : s.busy = false)
    (h : s.inputs = eventInput (0b01#2 ++ d) :: rest) :
    step s = .next { s with
      busy := true
      trace := s.trace ++ [.startConversion]
      inputs := rest
      emitted := [.startConversion] } := by
  rw [step_of_eventInput h, decodeEvent_tickWord, exec_tick_of_idle (s := beginStep s) hf hb,
    beginStep_of_cons h]
  rfl

theorem step_tickWord_of_busy {s : State} {d : Data} {rest : List PortIn}
    (hf : s.fault = .noFault) (hb : s.busy = true)
    (h : s.inputs = eventInput (0b01#2 ++ d) :: rest) : step s = .next (beginStep s) := by
  rw [step_of_eventInput h, decodeEvent_tickWord, exec_tick_of_busy (s := beginStep s) hf hb]

theorem afterStep_tickWord_of_busy {s : State} {d : Data} {rest : List PortIn}
    (hf : s.fault = .noFault) (hb : s.busy = true)
    (h : s.inputs = eventInput (0b01#2 ++ d) :: rest) : afterStep s = beginStep s :=
  (step_eq_next.mp (step_tickWord_of_busy hf hb h)).symm

/-- Ticks in a row are dropped one by one: after each the core is still busy and not faulted. -/
theorem run_tickWords_of_busy {s : State} {ds : List Data} {d : Data} {rest : List PortIn}
    (hf : s.fault = .noFault) (hb : s.busy = true)
    (h : s.inputs = (d :: ds).map (fun d => eventInput (0b01#2 ++ d)) ++ rest) :
    core.run (ds.length + 1) s = .next { s with inputs := rest, emitted := [] } := by
  induction ds generalizing s d with
  | nil =>
    rw [run_succ, afterStep_tickWord_of_busy hf hb h, beginStep_of_cons h]
    rfl
  | cons d' ds ih =>
    have htail : (beginStep s).inputs
        = (d' :: ds).map (fun d => eventInput (0b01#2 ++ d)) ++ rest := congrArg List.tail h
    rw [run_succ, afterStep_tickWord_of_busy hf hb h, List.length_cons,
      ih (s := beginStep s) hf hb htail]
    rfl

/-- Settles O11: R72 for one tick and for ticks in a row, and R71 in the idle state a dispatch leaves. -/
theorem tickWhileBusyIsDropped : Obligations.TickWhileBusyIsDropped := by
  intro s hf hb
  refine ⟨exec_tick_of_busy hf hb, fun d rest h => ?step,
    fun ds d rest => run_tickWords_of_busy hf hb, fun x u hu => ?afterDispatch⟩
  case step =>
    exact ⟨_, step_tickWord_of_busy hf hb h, by rw [ports_of_silent rfl], beginStep_of_cons h⟩
  case afterDispatch =>
    rw [exec_sampleReady_of_busy hf hb] at hu
    cases hu
    exact exec_tick_of_idle hf rfl

/-- Settles O10: R71 for the event, for its word with any DATA, and for the first word of a launch. -/
theorem tickStartsAConversionWhenIdle : Obligations.TickStartsAConversionWhenIdle := by
  intro s hf hb
  refine ⟨exec_tick_of_idle hf hb, fun d rest h => ?step, fun cfg d evs => ?launch⟩
  case step => exact ⟨_, step_tickWord_of_idle hf hb h, by rw [ports_of_start rfl], rfl⟩
  case launch => exact ⟨_, step_tickWord_of_idle rfl rfl rfl, rfl, rfl, rfl⟩

end Sys2Proof.Machine

namespace Sys2Proof.Machine

/-! The actuation dispatcher (R73). -/

theorem step_sampleWord_of_busy {s : State} {x : Sample} {rest : List PortIn}
    (hf : s.fault = .noFault) (hb : s.busy = true)
    (h : s.inputs = eventInput (0b10#2 ++ x) :: rest) :
    step s = .next (dispatchSample x (beginStep s)) := by
  rw [step_of_eventInput h, decodeEvent_sampleWord,
    exec_sampleReady_of_busy (s := beginStep s) hf hb]

/-- Settles O12: the dispatch field by field, its two strobes, and the two functions at the corners,
where only the direction at 127 needs the policy. -/
theorem sampleDispatchesWhileBusy : Obligations.SampleDispatchesWhileBusy := by
  intro s x hf hb
  have hexec := exec_sampleReady_of_busy hf hb x
  refine ⟨hexec.trans (congrArg _ (dispatchSample_eq x s)), fun rest h => ?step, fun t ht => ?corners⟩
  case step =>
    have hports := ports_of_dispatch (s := dispatchSample x (beginStep s)) rfl
    exact ⟨_, step_sampleWord_of_busy hf hb h, congrArg List.tail h, by simp [hports]⟩
  case corners =>
    obtain ⟨-, -, hmag0, hmag127, hmag128, hmag255, -, -⟩ := magnitudeHalvesFollowTheirFormulas
    have hmag64 : magnitudeFromSample 64 = 126 := by decide
    rw [hexec] at ht
    cases ht
    rw [dispatchSample_dirOut, dispatchSample_dutyOut]
    refine ⟨?at127, ?at128, ?at0, ?at255, ?at64⟩ <;> rintro rfl
    case at127 =>
      rw [hmag127]
      cases s.cfg.midPolicy with
      | reverse => exact ⟨rfl, by decide⟩
      | neutral => exact ⟨rfl, by decide⟩
    case at128 => rw [directionFromSample_of_gt (by decide), hmag128]; exact ⟨rfl, rfl⟩
    case at0 => rw [directionFromSample_of_lt (by decide), hmag0]; exact ⟨rfl, rfl⟩
    case at255 => rw [directionFromSample_of_gt (by decide), hmag255]; exact ⟨rfl, rfl⟩
    case at64 => rw [directionFromSample_of_lt (by decide), hmag64]; exact ⟨rfl, rfl⟩

end Sys2Proof.Machine

namespace Sys2Proof.Machine

/-! The faulted core (R69) and the reset step that alone ends it (R99). -/

/-- The next step is an event step where the inputs to come begin with one, or are spent (R98). -/
theorem nextInput_rst_of_take {s : State} {k : Nat}
    (h : ∀ p ∈ s.inputs.take (k + 1), p.isEvent = true) : (nextInput s).rst = false := by
  cases hs : s.inputs with
  | nil => rw [nextInput_nil hs]; rfl
  | cons p ps =>
    rw [nextInput_cons hs]
    simpa [PortIn.isEvent] using h p (by simp [hs])

/-- R69 for a run: event steps of a faulted core only take their inputs. -/
theorem run_of_faulted {s : State} {k : Nat} (hf : s.fault ≠ .noFault)
    (h : ∀ p ∈ s.inputs.take (k + 1), p.isEvent = true) :
    core.run (k + 1) s = .next { s with inputs := s.inputs.drop (k + 1), emitted := [] } := by
  induction k generalizing s with
  | zero =>
    rw [run_succ, afterStep_of_faulted (nextInput_rst_of_take h) hf, List.drop_one]
    rfl
  | succ k ih =>
    have hrest : ∀ p ∈ (beginStep s).inputs.take (k + 1), p.isEvent = true := fun p hp =>
      h p (List.mem_of_mem_tail (by rwa [List.tail_take_eq_take_tail]))
    rw [run_succ, afterStep_of_faulted (nextInput_rst_of_take h) hf,
      ih (s := beginStep s) hf hrest]
    simp [beginStep]

/-- Settles O15: R69 for one event, its closed form for a run, and the reset step that ends it. -/
theorem faultedCoreIsQuiescent : Obligations.FaultedCoreIsQuiescent := by
  intro s hf
  refine ⟨exec_of_faulted hf, fun k _ h => ?run, fun hr => ?reset⟩
  case run =>
    refine ⟨_, run_of_faulted hf h, rfl, rfl, rfl, rfl, rfl, ?_⟩
    rw [ports_of_silent rfl]
    exact ⟨rfl, rfl, rfl⟩
  case reset => exact ⟨_, step_eq s, by rw [afterStep_of_reset hr, resetStep_fault]⟩

end Sys2Proof.Machine

namespace Sys2Proof.Machine

/-! The conversion that never completes (R107). -/

/-- The event decoded is of the word's KIND (R40), DATA or not. -/
theorem decodeEvent_kind (w : EvWord) : (decodeEvent w).kind = kindField w := by
  unfold decodeEvent
  split_ifs with h0 h1 h2
  · exact h0.symm
  · exact h1.symm
  · exact h2.symm
  · change 0b11#2 = kindField w
    bv_omega

/-- What holds of each input to come, and of the empty one of R98, holds of the next one. -/
theorem nextInput_of_forall {P : PortIn → Prop} {s : State} (hidle : P idleInput)
    (h : ∀ p ∈ s.inputs, P p) : P (nextInput s) := by
  cases hs : s.inputs with
  | nil => rwa [nextInput_nil hs]
  | cons p ps => rw [nextInput_cons hs]; exact h p (by simp [hs])

/-- The rule of an event that is no SAMPLE_READY does to a busy core nothing but raise the fault of a
RESERVED (R70, R72, R75). -/
theorem eventRule_of_busy {s : State} {i : Instr} (hb : s.busy = true) (hi : i.kind ≠ 0b10#2) :
    ∃ f, eventRule i s = { s with fault := f } ∧ (i.kind ≠ 0b11#2 → f = s.fault) := by
  cases i with
  | none => exact ⟨s.fault, rfl, fun _ => rfl⟩
  | tick => exact ⟨s.fault, onTick_of_busy hb, fun _ => rfl⟩
  | sampleReady x => exact absurd rfl hi
  | reserved => exact ⟨.reservedEvent, rfl, fun h => absurd rfl h⟩

/-- A step that brings a busy core no sample takes its input, and at most raises a fault. -/
theorem afterStep_of_busy_noSample {s : State} (hb : s.busy = true)
    (h : (nextInput s).bringsNoSample = true) :
    ∃ f, afterStep s = { beginStep s with fault := f } ∧
      (kindField (nextInput s).ev ≠ 0b11#2 → f = s.fault) := by
  obtain ⟨hr, hk⟩ : (nextInput s).rst = false ∧ kindField (nextInput s).ev ≠ 0b10#2 := by
    simpa [PortIn.bringsNoSample] using h
  by_cases hf : s.fault = .noFault
  · rw [afterStep_of_event hr hf]
    rw [← decodeEvent_kind] at hk ⊢
    exact eventRule_of_busy (s := beginStep s) hb hk
  · exact ⟨s.fault, afterStep_of_faulted hr hf, fun _ => rfl⟩

/-- R107 for a run: of a busy core that no sample comes to, only the inputs, the latest step's actions
and the fault change, and the fault by a RESERVED only. -/
theorem run_of_busy_noSample (k : Nat) {s : State} (hb : s.busy = true)
    (h : ∀ p ∈ s.inputs, p.bringsNoSample = true) :
    ∃ f e, core.run k s = .next { s with fault := f, inputs := s.inputs.drop k, emitted := e } ∧
      ((∀ p ∈ s.inputs, kindField p.ev ≠ 0b11#2) → f = s.fault) := by
  induction k generalizing s with
  | zero => exact ⟨s.fault, s.emitted, run_zero s, fun _ => rfl⟩
  | succ k ih =>
    obtain ⟨f₁, hstep, hf₁⟩ := afterStep_of_busy_noSample hb (nextInput_of_forall (by decide) h)
    obtain ⟨f, e, hrun, hf⟩ := ih (s := { beginStep s with fault := f₁ }) hb
      fun p hp => h p (List.mem_of_mem_tail hp)
    refine ⟨f, e, ?_, fun hres => ?_⟩
    · rw [run_succ, hstep, hrun]
      simp [beginStep]
    · have hlater : f = f₁ := hf fun p hp => hres p (List.mem_of_mem_tail hp)
      have hfirst : f₁ = s.fault := hf₁
        (nextInput_of_forall (P := fun p => kindField p.ev ≠ 0b11#2) (by decide) hres)
      exact hlater.trans hfirst

/-- Settles O34: in the closed form of such a run busy, sinks and trace are those of the start. The bound
on the number of steps is not needed, for past the last input every step is the NONE step (R98). -/
theorem conversionNeverCompletedStalls : Obligations.ConversionNeverCompletedStalls := by
  intro s k hb _ h
  obtain ⟨f, e, hrun, hf⟩ := run_of_busy_noSample k hb h
  exact ⟨_, hrun, hb, rfl, rfl, rfl, hf⟩

end Sys2Proof.Machine

namespace Sys2Proof.Machine

/-! The encoding (R39 to R44): the fields of an event's word, and what the decoder reads of a word. -/

@[simp] theorem kindField_encode (i : Instr) : kindField (encode i) = i.kind :=
  kindField_append i.kind i.data

@[simp] theorem dataField_encode (i : Instr) : dataField (encode i) = i.data :=
  dataField_append i.kind i.data

/-- A word of KIND 0b00 is a NONE, with any DATA (R42). -/
theorem decodeEvent_noneWord (d : Data) : decodeEvent (0b00#2 ++ d) = .none := by
  simp [decodeEvent, kindField_append]

/-- A word of KIND 0b11 is a RESERVED, with any DATA (R42). -/
theorem decodeEvent_reservedWord (d : Data) : decodeEvent (0b11#2 ++ d) = .reserved := by
  simp [decodeEvent, kindField_append]

theorem decodeEvent_of_sampleKind {w : EvWord} (h : kindField w = 0b10#2) :
    decodeEvent w = .sampleReady (dataField w) := by
  simp [decodeEvent, h]

/-- Of a word that is no SAMPLE_READY the decoder reads KIND alone (R42). -/
theorem decodeEvent_eq_of_kind_eq {w w' : EvWord} (hk : kindField w = kindField w')
    (h : kindField w ≠ 0b10#2) : decodeEvent w = decodeEvent w' := by
  simp [decodeEvent, ← hk, h]

theorem decodeEvent_data (w : EvWord) :
    (decodeEvent w).data = if kindField w = 0b10#2 then dataField w else 0 := by
  split
  next h => rw [decodeEvent_of_sampleKind h]; rfl
  next h => cases hi : decodeEvent w with
    | sampleReady x => exact absurd (by rw [← decodeEvent_kind, hi]; rfl) h
    | none | tick | reserved => rfl

theorem decodeEvent_encode (i : Instr) : decodeEvent (encode i) = i := by
  cases i with
  | none => exact decodeEvent_noneWord 0
  | tick => exact decodeEvent_tickWord 0
  | sampleReady x => exact decodeEvent_sampleWord x
  | reserved => exact decodeEvent_reservedWord 0

theorem decodeWord_of_lt {n : Nat} (h : n < 1024) :
    decodeWord n = .ok (decodeEvent (BitVec.ofNat 10 n)) := by
  simp [decodeWord, isEventWord, h]

theorem decodeWord_of_ge {n : Nat} (h : 1024 ≤ n) : decodeWord n = .error .widerThanEventPort := by
  simp [decodeWord, isEventWord, h]

/-- The number decoder reads of an event word's number what the port decoder reads of the word. -/
theorem decodeWord_toNat (w : EvWord) : decodeWord w.toNat = .ok (decodeEvent w) := by
  rw [decodeWord_of_lt w.isLt, BitVec.ofNat_toNat, BitVec.setWidth_eq]

/-- Settles O2: the port decoder inverts the encoder, and the two number decoders agree with it on the
number of an event word, which the 16 bits of a table row do not cut. -/
theorem decodeInvertsEncode : Obligations.DecodeInvertsEncode := by
  intro i
  have hword : decodeWord (encode i).toNat = .ok i := by rw [decodeWord_toNat, decodeEvent_encode]
  have hcut : (encode i).toNat % 2 ^ 16 = (encode i).toNat :=
    Nat.mod_eq_of_lt (Nat.lt_trans (encode i).isLt (by decide))
  exact ⟨decodeEvent_encode i, hword, by rw [decodeTableWord, hcut, hword]; rfl⟩

/-- Settles O3: the event gives back KIND, and DATA where it is a sample; no more is read. -/
theorem decodingReadsKindAndSampleOnly : Obligations.DecodingReadsKindAndSampleOnly := by
  intro w w'
  constructor
  · intro h
    have hk : kindField w = kindField w' := by rw [← decodeEvent_kind, h, decodeEvent_kind]
    refine ⟨hk, fun hs => ?_⟩
    rw [decodeEvent_of_sampleKind hs, decodeEvent_of_sampleKind (hk ▸ hs)] at h
    exact Instr.sampleReady.inj h
  · rintro ⟨hk, hd⟩
    by_cases hs : kindField w = 0b10#2
    · rw [decodeEvent_of_sampleKind hs, decodeEvent_of_sampleKind (hk ▸ hs), hd hs]
    · exact decodeEvent_eq_of_kind_eq hk hs

/-- Settles O4: the encoder writes the KIND and the DATA of the event that was read. -/
theorem encodeRestoresTheWordRead : Obligations.EncodeRestoresTheWordRead := by
  rintro w _ rfl
  rw [kindField_encode, dataField_encode]
  exact ⟨decodeEvent_kind w, decodeEvent_data w⟩

/-- Settles O5: the decoder of numbers splits at the width of the port. -/
theorem widerNumbersAreNoEventWords : Obligations.WiderNumbersAreNoEventWords :=
  fun _ => ⟨fun h => ⟨_, decodeWord_of_lt h⟩, decodeWord_of_ge⟩

/-- Settles O1: each word written out is a KIND and a DATA, and is read by the rule of its KIND. -/
theorem eventWordsReadAsTheTableSays : Obligations.EventWordsReadAsTheTableSays :=
  ⟨decodeEvent_noneWord 0, decodeEvent_noneWord 255, decodeEvent_tickWord 0,
    decodeEvent_tickWord 255, decodeEvent_sampleWord 0, decodeEvent_sampleWord 64,
    decodeEvent_sampleWord 255, decodeEvent_reservedWord 0, decodeEvent_reservedWord 0b01010101⟩

end Sys2Proof.Machine

namespace Sys2Proof.Machine

/-! The lines of an event program (R52) and their words. -/

/-- `0x200 + n` and `0x300 + n` are KIND and DATA side by side, for `n` in the range of an operand. -/
theorem ofNat_kind_add_data (k n : Nat) (h : n ≤ 255) :
    BitVec.ofNat 10 (k * 256 + n) = BitVec.ofNat 2 k ++ BitVec.ofNat 8 n := by
  apply BitVec.eq_of_toNat_eq
  rw [BitVec.toNat_append, BitVec.toNat_ofNat, BitVec.toNat_ofNat, BitVec.toNat_ofNat,
    ← Nat.shiftLeft_add_eq_or_of_lt (Nat.mod_lt n (by decide)), Nat.shiftLeft_eq]
  omega

theorem transcribe_of_wellFormed {l : ProgLine} (h : l.wellFormed = true) (hl : l ≠ .reset) :
    transcribe l = some (eventInput (BitVec.ofNat 10 l.word)) := by
  rw [transcribe, if_pos h, if_neg hl]

theorem transcribe_of_illFormed {l : ProgLine} (h : l.wellFormed = false) : transcribe l = none := by
  rw [transcribe, h]; rfl

/-- Settles O37: R52's table line by line; the operand's range is that of 8 bits, so `sample n` and
`rsv n` are words of their KIND whose DATA is `n`. -/
theorem programLinesSpellTheirWords : Obligations.ProgramLinesSpellTheirWords := by
  refine ⟨⟨0, rfl⟩, rfl, rfl, fun n hn => ?inRange, fun n hn => ?outOfRange⟩
  case inRange =>
    have hwf : isOperandNumeral n = true := decide_eq_true (by omega)
    refine ⟨transcribe_of_wellFormed hwf nofun, ?_, transcribe_of_wellFormed hwf nofun, ?_⟩
    · rw [decodeWord_of_lt (by omega), ofNat_kind_add_data 2 n hn]
      exact congrArg _ (decodeEvent_sampleWord _)
    · rw [decodeWord_of_lt (by omega), ofNat_kind_add_data 3 n hn]
      exact congrArg _ (decodeEvent_reservedWord _)
  case outOfRange =>
    have hwf : isOperandNumeral n = false := decide_eq_false (by omega)
    exact ⟨transcribe_of_illFormed hwf, transcribe_of_illFormed hwf⟩

end Sys2Proof.Machine

namespace Sys2Proof.Machine

/-! Single steps: the empty one, the reset step, and the events that write no sink (R70, R74, R75, R99). -/

theorem step_of_nil {s : State} (h : s.inputs = []) : step s = exec .none (beginStep s) := by
  simp only [step, nextInput_nil h]
  rfl

theorem beginStep_of_nil {s : State} (h : s.inputs = []) : beginStep s = { s with emitted := [] } := by
  simp [beginStep, h]

theorem step_withFetchWord {s : State} {nbits w : Nat} (h : w % 2 ^ nbits < 1024) :
    step (s.withFetchWord nbits w)
      = exec (decodeEvent (BitVec.ofNat 10 (w % 2 ^ nbits))) { s with emitted := [] } := by
  have hw : isEventWord (w % 2 ^ nbits) = true := decide_eq_true h
  rw [State.withFetchWord, if_pos hw, step_of_eventInput rfl, beginStep_present]

theorem decodeTableWord_eq_some {nbits w : Nat} {i : Instr} (h : decodeTableWord nbits w = some i) :
    w % 2 ^ nbits < 1024 ∧ decodeEvent (BitVec.ofNat 10 (w % 2 ^ nbits)) = i := by
  rw [decodeTableWord] at h
  by_cases hw : w % 2 ^ nbits < 1024
  · rw [decodeWord_of_lt hw] at h
    exact ⟨hw, Option.some.inj h⟩
  · rw [decodeWord_of_ge (Nat.le_of_not_lt hw)] at h
    cases h

theorem exec_none (s : State) : exec .none s = .next s := by
  rw [exec_eq]
  exact congrArg _ (ite_self s)

/-- R74: a sample nobody waits for raises SPURIOUS_SAMPLE. -/
theorem exec_sampleReady_of_idle {s : State} (hf : s.fault = .noFault) (hb : s.busy = false)
    (x : Sample) : exec (.sampleReady x) s = .next (raiseFault .spuriousSample s) := by
  rw [exec_of_noFault hf, eventRule, onSampleReady_of_idle hb]

/-- R75: RESERVED raises RESERVED_EVENT. -/
theorem exec_reserved {s : State} (hf : s.fault = .noFault) :
    exec .reserved s = .next (raiseFault .reservedEvent s) :=
  exec_of_noFault hf .reserved

theorem step_resetInput {s : State} {w : EvWord} {rest : List PortIn}
    (h : s.inputs = { rst := true, ev := w } :: rest) :
    step s = .next { State.reset with cfg := s.cfg, inputs := rest } := by
  rw [step_eq, afterStep_of_reset (by rw [nextInput_cons h]), beginStep_of_cons h]
  rfl

/-- Settles O6: an event word on the port is decoded and run, the word `withFetchWord` presents too. -/
theorem stepRunsTheDecodedEvent : Obligations.StepRunsTheDecodedEvent := by
  refine ⟨fun s w rest h => ?port, fun s nbits w i h => ?fetched⟩
  case port => rw [step_of_eventInput h, beginStep_of_cons h]
  case fetched =>
    obtain ⟨hw, hi⟩ := decodeTableWord_eq_some h
    rw [step_withFetchWord hw, hi]

/-- Settles O7: where nothing is presented, the step is NONE's, on the state with an empty record. -/
theorem nothingPresentedIsTheEmptyStep : Obligations.NothingPresentedIsTheEmptyStep := by
  intro s h
  rw [step_of_nil h, beginStep_of_nil h]
  exact ⟨exec_none _, rfl⟩

/-- Settles O8: the reset step's state, its silent ports, and the launch it begins. -/
theorem resetStepClearsEverything : Obligations.ResetStepClearsEverything :=
  ⟨fun _ _ _ h => ⟨_, step_resetInput h, rfl, ports_of_silent rfl⟩, fun _ _ _ => step_resetInput⟩

/-- Settles O9: NONE is its own state, and its words of any DATA are read as NONE. -/
theorem noneDoesNothing : Obligations.NoneDoesNothing := by
  refine ⟨exec_none, fun s d rest h => ?_⟩
  rw [step_of_eventInput h, decodeEvent_noneWord, exec_none, beginStep_of_cons h]

/-- Settles O13: R74's rule writes `fault` and nothing else, whatever the sample. -/
theorem sampleWhileIdleRaisesSpuriousSample : Obligations.SampleWhileIdleRaisesSpuriousSample :=
  fun _ x hf hb => exec_sampleReady_of_idle hf hb x

/-- Settles O14: R75 for the event and for its words of any DATA. -/
theorem reservedEventRaisesItsFault : Obligations.ReservedEventRaisesItsFault := by
  refine fun s hf => ⟨exec_reserved hf, fun d rest h => ?_⟩
  rw [step_of_eventInput h, decodeEvent_reservedWord, exec_reserved (s := beginStep s) hf,
    beginStep_of_cons h]
  rfl

end Sys2Proof.Machine

namespace Sys2Proof.Machine

/-! The magnitude as a number (R61 to R66), and the codes and duties that are legal (R47, R48). -/

/-- The duty of a sample, half by half (R62, R63), as natural numbers. -/
theorem magnitudeFromSample_cases (x : Sample) :
    (x.toNat < 128 ∧ (magnitudeFromSample x).toNat = 254 - 2 * x.toNat) ∨
    (128 ≤ x.toNat ∧ (magnitudeFromSample x).toNat = 2 * (x.toNat - 128)) := by
  rcases Nat.lt_or_ge x.toNat 128 with h | h
  · have := magnitudeFromSample_low h
    omega
  · have := magnitudeFromSample_high h
    omega

theorem magnitudeFromSample_even_le (x : Sample) :
    (magnitudeFromSample x).toNat % 2 = 0 ∧ (magnitudeFromSample x).toNat ≤ 254 := by
  have := magnitudeFromSample_cases x
  omega

/-- Settles O19: each clause is arithmetic on the two halves' formulas at the samples it names. -/
theorem magnitudeIsAnExactV : Obligations.MagnitudeIsAnExactV := by
  refine ⟨magnitudeFromSample_even_le, fun x y hxy hy => ?falls, fun x y hx hxy => ?rises,
    fun x => ?zeros, fun x => ?maxima, fun k hk => ?symmetric⟩
  case falls | rises =>
    have hmx := magnitudeFromSample_cases x
    have hmy := magnitudeFromSample_cases y
    omega
  case zeros | maxima =>
    have hm := magnitudeFromSample_cases x
    simp only [← BitVec.toNat_inj, BitVec.ofNat_eq_ofNat, BitVec.toNat_ofNat]
    omega
  case symmetric =>
    have hlow := magnitudeFromSample_cases (BitVec.ofNat 8 (127 - k))
    have hhigh := magnitudeFromSample_cases (BitVec.ofNat 8 (128 + k))
    simp only [BitVec.toNat_ofNat] at hlow hhigh
    omega

theorem enc_ne_both (d : Direction) : enc d ≠ 0b11#2 := by cases d <;> decide

@[simp] theorem legalCode_enc (d : Direction) : legalCode (enc d) = true :=
  decide_eq_true (enc_ne_both d)

@[simp] theorem legalDuty_magnitudeFromSample (x : Sample) :
    legalDuty (magnitudeFromSample x) = true := by
  obtain ⟨heven, hle⟩ := magnitudeFromSample_even_le x
  simp [legalDuty, BitVec.getLsbD, Nat.testBit_zero, heven, hle]

theorem dispatchActions_legal (p : MidPolicy) (x : Sample) :
    (dispatchActions p x).all legalAction = true := by simp [dispatchActions]

/-! The direction code of a sample (R54 to R59). -/

theorem toNat_eq_127 {x : Sample} : x.toNat = 127 ↔ x = 127 :=
  BitVec.toNat_inj (y := 127#8)

/-- Settles O17: of the three codes a dispatch writes the one of the sample's case, never 0b11. -/
theorem directionCodeFollowsSampleAndPolicy : Obligations.DirectionCodeFollowsSampleAndPolicy := by
  intro s x hf hb
  refine ⟨_, exec_sampleReady_of_busy hf hb x, ?_⟩
  rw [dispatchSample_dirOut, ← toNat_eq_127]
  obtain ⟨hx, hd⟩ | ⟨hx, hd⟩ | ⟨hx, hp, hd⟩ | ⟨hx, hp, hd⟩ :=
    directionFromSample_cases x s.cfg.midPolicy <;> rw [hd]
  · simp [enc, hx, hx.ne, hx.le]
  · simp [enc, hx, hx.ne', hx.le]
  · simp [enc, hx, hp]
  · simp [enc, hx, hp]

end Sys2Proof.Machine

namespace Sys2Proof.Machine

/-! The combinational forms (R59, R65, R67) are the two functions. -/

theorem atMidpoint_eq (x : Sample) : atMidpoint x = decide (x.toNat = 127) :=
  decide_eq_decide.mpr toNat_eq_127.symm

/-- Bit 7 of a sample is the comparison with 128. -/
theorem getLsbD_seven (x : Sample) : x.getLsbD 7 = decide (128 ≤ x.toNat) :=
  (BitVec.msb_eq_getLsbD_last x).symm.trans (BitVec.msb_eq_decide x)

/-- R59's two lines are the code of the direction. -/
theorem directionLines_eq (x : Sample) (p : MidPolicy) :
    directionLines x p = enc (directionFromSample x p) := by
  rw [directionLines, belowMidpoint, atMidpoint_eq, aboveMidpoint, getLsbD_seven]
  obtain ⟨hx, hd⟩ | ⟨hx, hd⟩ | ⟨hx, rfl, hd⟩ | ⟨hx, rfl, hd⟩ := directionFromSample_cases x p <;>
    rw [hd]
  · simp [enc, hx, show ¬128 ≤ x.toNat by omega]
  · simp [enc, hx.ne', hx.not_gt, show 128 ≤ x.toNat by omega]
  · simp [enc, hx]
  · simp [enc, hx]

/-- R65's `DUTY[0] = 0` below seven bits doubles their number. -/
theorem toNat_append_zero (v : BitVec 7) : (v ++ 0#1).toNat = 2 * v.toNat := by
  rw [BitVec.toNat_append, BitVec.toNat_zero, Nat.or_zero, Nat.shiftLeft_eq, Nat.mul_comm]

/-- R65: inverting seven bits takes them from 127, and the shift doubles. -/
theorem magnitudeLogic_eq (x : Sample) : magnitudeLogic x = magnitudeFromSample x := by
  apply BitVec.eq_of_toNat_eq
  rw [magnitudeLogic, getLsbD_seven]
  obtain ⟨hx, hm⟩ | ⟨hx, hm⟩ := magnitudeFromSample_cases x
  · have hlow : decide (128 ≤ x.toNat) = false := decide_eq_false (by omega)
    have hinv : (x.extractLsb 6 0 ^^^ 0b1111111#7) = ~~~x.extractLsb 6 0 := BitVec.xor_allOnes
    rw [hm, hlow, if_neg nofun, hinv, toNat_append_zero, BitVec.toNat_not,
      BitVec.extractLsb_toNat]
    omega
  · have hhigh : decide (128 ≤ x.toNat) = true := decide_eq_true hx
    rw [hm, hhigh, if_pos rfl, BitVec.xor_zero, toNat_append_zero,
      BitVec.extractLsb_toNat]
    omega

/-- R67: of the two accumulators the one selected holds the exact value. -/
theorem magnitudeFixedWidth_eq (x : Sample) : magnitudeFixedWidth x = magnitudeFromSample x := by
  apply BitVec.eq_of_toNat_eq
  rw [magnitudeFixedWidth]
  obtain ⟨hx, hm⟩ | ⟨hx, hm⟩ := magnitudeFromSample_cases x
  · rw [if_pos hx, hm, lowAccumulator]
    simp only [BitVec.extractLsb_toNat, BitVec.toNat_sub, BitVec.toNat_mul,
      BitVec.toNat_setWidth, BitVec.toNat_ofNat]
    omega
  · rw [if_neg (by omega), hm, highAccumulator]
    simp only [BitVec.extractLsb_toNat, BitVec.toNat_sub, BitVec.toNat_mul,
      BitVec.toNat_setWidth, BitVec.toNat_ofNat]
    omega

/-- No narrowing mode of I3 changes the exact value, which lies in [0, 254]. -/
theorem narrowTruncate_magnitudeExact (x : Sample) :
    narrowTruncate (magnitudeExact x) = magnitudeFromSample x := by
  obtain ⟨h₀, h₁⟩ := magnitudeExact_range x
  rw [magnitudeFromSample, clamp_of_range h₀ h₁]

theorem ofNat_toNat_magnitudeExact (x : Sample) :
    BitVec.ofNat 8 (magnitudeExact x).toNat = magnitudeFromSample x := by
  rw [← magnitudeFromSample_toNat, Int.toNat_natCast, BitVec.ofNat_toNat, BitVec.setWidth_eq]

theorem narrowSaturate_magnitudeExact (x : Sample) :
    narrowSaturate (magnitudeExact x) = magnitudeFromSample x := by
  obtain ⟨h₀, h₁⟩ := magnitudeExact_range x
  rw [narrowSaturate, clamp_of_range h₀ (by omega), ofNat_toNat_magnitudeExact]

theorem narrowChecked_magnitudeExact (x : Sample) :
    narrowChecked (magnitudeExact x) = some (magnitudeFromSample x) := by
  obtain ⟨h₀, h₁⟩ := magnitudeExact_range x
  rw [narrowChecked, if_pos ⟨h₀, by omega⟩, ofNat_toNat_magnitudeExact]

/-- Settles O20: each form equals the function the dispatch writes. -/
theorem combinationalFormsDriveTheSinks : Obligations.CombinationalFormsDriveTheSinks := by
  intro s x hf hb
  refine ⟨_, exec_sampleReady_of_busy hf hb x, ?_⟩
  rw [dispatchSample_dirOut, dispatchSample_dutyOut, directionLines_eq, magnitudeLogic_eq,
    magnitudeFixedWidth_eq, narrowTruncate_magnitudeExact, narrowSaturate_magnitudeExact,
    narrowChecked_magnitudeExact]
  exact ⟨rfl, rfl, rfl, rfl, rfl, rfl⟩

end Sys2Proof.Machine

namespace Sys2Proof.Machine

/-! What a dispatch makes of each field (R73); the sinks' two lemmas stand above. -/

@[simp] theorem dispatchSample_trace (x : Sample) (s : State) :
    (dispatchSample x s).trace = s.trace ++ dispatchActions s.cfg.midPolicy x :=
  congrArg State.trace (dispatchSample_eq x s)

@[simp] theorem dispatchSample_emitted (x : Sample) (s : State) :
    (dispatchSample x s).emitted = s.emitted ++ dispatchActions s.cfg.midPolicy x :=
  congrArg State.emitted (dispatchSample_eq x s)

@[simp] theorem dispatchSample_busy (x : Sample) (s : State) : (dispatchSample x s).busy = false := rfl
@[simp] theorem dispatchSample_fault (x : Sample) (s : State) :
    (dispatchSample x s).fault = s.fault := rfl
@[simp] theorem dispatchSample_cfg (x : Sample) (s : State) : (dispatchSample x s).cfg = s.cfg := rfl
@[simp] theorem dispatchSample_inputs (x : Sample) (s : State) :
    (dispatchSample x s).inputs = s.inputs := rfl

/-! Everything an event and a step can do, as cases. -/

/-- What an event may make of a state: the rows of R82 and R69, each with its guard. -/
inductive EventEffect : Instr → State → State → Prop
  /-- Nothing: a faulted core, NONE, or the tick of a busy core (R69, R70, R72). -/
  | nothing (i : Instr) (s : State) : EventEffect i s s
  /-- A fault is raised, by RESERVED or by a spurious sample (R74, R75). -/
  | raised {i : Instr} {s : State} {r : FaultCode} (hf : s.fault = .noFault)
      (h : i = .reserved ∧ r = .reservedEvent ∨
        ∃ x, i = .sampleReady x ∧ s.busy = false ∧ r = .spuriousSample) :
      EventEffect i s (raiseFault r s)
  /-- A conversion is started (R71). -/
  | started {s : State} (hf : s.fault = .noFault) (hb : s.busy = false) :
      EventEffect .tick s (emitStartConversion (setBusy true s))
  /-- A sample is dispatched (R73). -/
  | dispatched {s : State} (x : Sample) (hf : s.fault = .noFault) (hb : s.busy = true) :
      EventEffect (.sampleReady x) s (dispatchSample x s)

theorem eventEffect_of_rule (i : Instr) {s : State} (hf : s.fault = .noFault) :
    EventEffect i s (eventRule i s) := by
  cases i with
  | none => exact .nothing .none s
  | tick =>
    rw [eventRule]
    cases hb : s.busy with
    | false => rw [onTick_of_idle hb]; exact .started hf hb
    | true => rw [onTick_of_busy hb]; exact .nothing .tick s
  | sampleReady x =>
    rw [eventRule]
    cases hb : s.busy with
    | false => rw [onSampleReady_of_idle hb]; exact .raised hf (.inr ⟨x, rfl, hb, rfl⟩)
    | true => rw [onSampleReady_of_busy hb]; exact .dispatched x hf hb
  | reserved => exact .raised hf (.inl ⟨rfl, rfl⟩)

theorem eventEffect_of_exec {i : Instr} {s t : State} (h : exec i s = .next t) :
    EventEffect i s t := by
  rw [exec_eq] at h
  split at h <;> cases h
  next hf => exact eventEffect_of_rule i hf
  next => exact .nothing i s

/-- A step is a reset step, or the event decoded, on the state whose input is taken. -/
theorem step_cases {s t : State} (h : step s = .next t) :
    ((nextInput s).rst = true ∧ t = resetStep (beginStep s)) ∨
    ((nextInput s).rst = false ∧
      ∃ i, decodeEvent (nextInput s).ev = i ∧ EventEffect i (beginStep s) t) := by
  cases hr : (nextInput s).rst with
  | true => exact .inl ⟨rfl, by rw [step_eq_next.mp h, afterStep_of_reset hr]⟩
  | false =>
    rw [step, hr] at h
    exact .inr ⟨rfl, _, rfl, eventEffect_of_exec h⟩

/-- An invariant that the reset step establishes and every event keeps is kept by every step; that a
step takes its input does not matter to it. -/
theorem step_keeps {P : State → Prop} (hbegin : ∀ s, P s → P (beginStep s))
    (hreset : ∀ s, P (resetStep s)) (hevent : ∀ {i s t}, EventEffect i s t → P s → P t) (s t : State)
    (hs : P s) (h : step s = .next t) : P t := by
  obtain ⟨-, rfl⟩ | ⟨-, _, -, he⟩ := step_cases h
  · exact hreset (beginStep s)
  · exact hevent he (hbegin s hs)

end Sys2Proof.Machine

namespace Sys2Proof.Machine

/-! The state accounted for by the samples dispatched (R17, R19, R76, R84). -/

theorem cycleTrace_busy (p : MidPolicy) (xs : List Sample) :
    cycleTrace p true xs = cycleTrace p false xs ++ [.startConversion] := by
  simp [cycleTrace]

/-- A dispatch makes the started conversion a whole cycle. -/
theorem cycleTrace_dispatch (p : MidPolicy) (xs : List Sample) (x : Sample) :
    cycleTrace p false (xs ++ [x]) = cycleTrace p true xs ++ dispatchActions p x := by
  simp [cycleTrace, cycleActions]

theorem accounted_of_empty {s : State} (hb : s.busy = false) (hd : s.dirOut = none)
    (hv : s.dutyOut = none) (ht : s.trace = []) : Accounted s :=
  ⟨[], by rw [ht, hb]; rfl, hd, hv⟩

theorem EventEffect.accountsFor {i : Instr} {s t : State} (he : EventEffect i s t) {xs : List Sample}
    (h : accountsFor xs s) : Accounted t := by
  obtain ⟨htrace, hdir, hduty⟩ := h
  cases he with
  | nothing => exact ⟨xs, htrace, hdir, hduty⟩
  | raised => exact ⟨xs, htrace, hdir, hduty⟩
  | started _ hb =>
    refine ⟨xs, ?_, hdir, hduty⟩
    rw [emitStartConversion_trace, setBusy_trace, htrace, hb]
    exact (cycleTrace_busy s.cfg.midPolicy xs).symm
  | dispatched x _ hb =>
    refine ⟨xs ++ [x], ?_, by simp, by simp⟩
    rw [dispatchSample_trace, htrace, hb]
    exact (cycleTrace_dispatch s.cfg.midPolicy xs x).symm

/-- Settles O28: a reset step forgets the samples, a dispatch adds its own to them, and every other event
leaves them as they are. -/
theorem stepKeepsTheStateAccountedFor : Obligations.StepKeepsTheStateAccountedFor :=
  step_keeps (fun _ h => h) (fun _ => accounted_of_empty rfl rfl rfl rfl)
    fun he ⟨_, h⟩ => he.accountsFor h

end Sys2Proof.Machine

namespace Sys2Proof.Machine

/-! The legal outputs (R47, R48, R66). -/

theorem EventEffect.outputsLegal {i : Instr} {s t : State} (he : EventEffect i s t)
    (h : OutputsLegal s) : OutputsLegal t := by
  obtain ⟨hdir, hduty, htrace, hemitted⟩ := h
  cases he with
  | nothing => exact ⟨hdir, hduty, htrace, hemitted⟩
  | raised => exact ⟨hdir, hduty, htrace, hemitted⟩
  | started =>
    exact ⟨hdir, hduty, by simpa using htrace, by simpa using hemitted⟩
  | dispatched x =>
    refine ⟨by simp, by simp, ?_, ?_⟩
    · rw [dispatchSample_trace, List.all_append, htrace, dispatchActions_legal]; rfl
    · rw [dispatchSample_emitted, List.all_append, hemitted, dispatchActions_legal]; rfl

/-- Settles O30: only a dispatch writes a sink, with a code of a direction and an even duty of at most 254. -/
theorem stepKeepsTheOutputsLegal : Obligations.StepKeepsTheOutputsLegal :=
  step_keeps (fun _ ⟨hdir, hduty, htrace, _⟩ => ⟨hdir, hduty, htrace, rfl⟩)
    (fun _ => ⟨rfl, rfl, rfl, rfl⟩) fun he h => he.outputsLegal h

end Sys2Proof.Machine

namespace Sys2Proof.Machine

/-! The counts of R76 and R83. -/

@[simp] theorem startCount_append (l m : List Action) :
    startCount (l ++ m) = startCount l + startCount m := List.countP_append

@[simp] theorem directionCount_append (l m : List Action) :
    directionCount (l ++ m) = directionCount l + directionCount m := List.countP_append

@[simp] theorem dutyCount_append (l m : List Action) :
    dutyCount (l ++ m) = dutyCount l + dutyCount m := List.countP_append

@[simp] theorem startCount_start : startCount [.startConversion] = 1 := rfl
@[simp] theorem directionCount_start : directionCount [.startConversion] = 0 := rfl
@[simp] theorem dutyCount_start : dutyCount [.startConversion] = 0 := rfl

@[simp] theorem startCount_dispatchActions (p : MidPolicy) (x : Sample) :
    startCount (dispatchActions p x) = 0 := rfl

@[simp] theorem directionCount_dispatchActions (p : MidPolicy) (x : Sample) :
    directionCount (dispatchActions p x) = 1 := rfl

@[simp] theorem dutyCount_dispatchActions (p : MidPolicy) (x : Sample) :
    dutyCount (dispatchActions p x) = 1 := rfl

theorem EventEffect.counted {i : Instr} {s t : State} (he : EventEffect i s t) (h : Counted s) :
    Counted t := by
  obtain ⟨hstart, hdir⟩ := h
  cases he with
  | nothing => exact ⟨hstart, hdir⟩
  | raised => exact ⟨hstart, hdir⟩
  | started _ hb => exact ⟨by simp [hstart, hb], by simp [hdir]⟩
  | dispatched x _ hb => exact ⟨by simp [hstart, hb], by simp [hdir]⟩

/-- Settles O29: a start raises the starts and `busy` by one, a dispatch the two kinds of write by one. -/
theorem stepKeepsTheWriteCounts : Obligations.StepKeepsTheWriteCounts :=
  step_keeps (fun _ h => h) (fun _ => ⟨rfl, rfl⟩) fun he h => he.counted h

end Sys2Proof.Machine

namespace Sys2Proof.Machine

/-! The frame of an event, the state diagram, and the stickiness of a fault, each read off the cases of
what an event can do. -/

/-- Settles O22: in the two cases that change a sink or `busy` the event is named, and so are the actions
each appends. -/
theorem eventsChangeNothingElse : Obligations.EventsChangeNothingElse := by
  intro i s t h
  cases eventEffect_of_exec h with
  | nothing =>
    exact ⟨rfl, rfl, fun _ => ⟨rfl, rfl⟩, fun hb => absurd rfl hb, fun hf => absurd rfl hf,
      [], by simp, by simp, fun _ => rfl, fun _ => .inl rfl, fun _ _ => .inl rfl⟩
  | raised hf hr =>
    refine ⟨rfl, rfl, fun _ => ⟨rfl, rfl⟩, fun hb => absurd rfl hb, fun _ => ⟨hf, hr⟩,
      [], by simp, by simp, fun _ => rfl, fun _ => .inl rfl, fun _ _ => .inl rfl⟩
  | started hf =>
    exact ⟨rfl, rfl, fun _ => ⟨rfl, rfl⟩, fun _ => ⟨hf, .inl ⟨rfl, rfl⟩⟩, fun hf' => absurd rfl hf',
      [.startConversion], rfl, rfl, nofun, fun _ => .inr rfl, nofun⟩
  | dispatched x hf hb =>
    refine ⟨rfl, rfl, ?sinks, fun _ => ⟨hf, .inr ⟨x, rfl, rfl⟩⟩, fun hf' => absurd rfl hf',
      dispatchActions s.cfg.midPolicy x, dispatchSample_trace x s, dispatchSample_emitted x s,
      nofun, nofun, ?actions⟩
    case sinks =>
      rintro (hi | hidle | hfault)
      · exact absurd rfl (hi x)
      · exact absurd (hb.symm.trans hidle) nofun
      · exact absurd hf hfault
    case actions => rintro _ ⟨rfl⟩; exact .inr rfl

/-- Settles O21: each row of R82's table is the event's own rule. -/
theorem eventsFollowTheStateDiagram : Obligations.EventsFollowTheStateDiagram := by
  intro s i hf
  cases hb : s.busy with
  | false =>
    cases i with
    | none => exact ⟨_, exec_none s, by rw [hb, hf]⟩
    | tick => exact ⟨_, exec_tick_of_idle hf hb, by rw [hf]⟩
    | sampleReady x => exact ⟨_, exec_sampleReady_of_idle hf hb x, by simp [hb]⟩
    | reserved => exact ⟨_, exec_reserved hf, by simp [hb]⟩
  | true =>
    cases i with
    | none => exact ⟨_, exec_none s, by rw [hb, hf]⟩
    | tick => exact ⟨_, exec_tick_of_busy hf hb, by rw [hb, hf]⟩
    | sampleReady x => exact ⟨_, exec_sampleReady_of_busy hf hb x, by simp [hf]⟩
    | reserved => exact ⟨_, exec_reserved hf, by simp [hb]⟩

/-- Settles O26: an event of a faulted core is nothing, so the step was a reset step. -/
theorem onlyResetClearsAFault : Obligations.OnlyResetClearsAFault := by
  intro s t h hf hchanged
  obtain ⟨hr, rfl⟩ | ⟨-, _, -, he⟩ := step_cases h
  · exact ⟨hr, rfl⟩
  · cases he with
    | nothing => exact absurd rfl hchanged
    | raised hnone => exact absurd hnone hf
    | started => exact absurd rfl hchanged
    | dispatched => exact absurd rfl hchanged

/-- Settles O25: both dispatches write the codes of the one sample under the one policy. -/
theorem dispatchDependsOnSampleAndPolicyOnly : Obligations.DispatchDependsOnSampleAndPolicyOnly := by
  intro s₁ s₂ t₁ t₂ x hf₁ hb₁ hf₂ hb₂ hp h₁ h₂
  rw [exec_sampleReady_of_busy hf₁ hb₁] at h₁
  rw [exec_sampleReady_of_busy hf₂ hb₂] at h₂
  cases h₁
  cases h₂
  refine ⟨by simp, by simp [hf₁, hf₂], by simp [hp], by simp, .setDirection _, .setDuty _,
    dispatchSample_trace x s₁, ?_⟩
  rw [hp]
  exact dispatchSample_trace x s₂

end Sys2Proof.Machine

namespace Sys2Proof.Machine

/-! The output ports of a step (R49 to R51). -/

@[simp] theorem portBit_eq_one {b : Bool} : portBit b = 1 ↔ b = true := by cases b <;> decide

/-- The FAULT port tells the faults apart: its codes are distinct. -/
@[simp] theorem faultPortCode_inj {f g : FaultCode} : faultPortCode f = faultPortCode g ↔ f = g := by
  cases f <;> cases g <;> decide

theorem faultPortCode_ne_three (f : FaultCode) : faultPortCode f ≠ 0b11#2 := by cases f <;> decide

/-- The actions of one step: none, a start, or the two writes of a dispatch, which the sinks then hold. -/
theorem emitted_cases {s t : State} (h : step s = .next t) :
    t.emitted = [] ∨ t.emitted = [.startConversion] ∨
    ∃ d v, t.emitted = [.setDirection (enc d), .setDuty v] ∧
      t.dirOut = some (enc d) ∧ t.dutyOut = some v := by
  obtain ⟨-, rfl⟩ | ⟨-, _, -, he⟩ := step_cases h
  · exact .inl rfl
  · cases he with
    | nothing => exact .inl rfl
    | raised => exact .inl rfl
    | started => exact .inr (.inl rfl)
    | dispatched x => exact .inr (.inr ⟨_, _, dispatchSample_emitted x _, rfl, rfl⟩)

/-- An event step appends the actions it emits, and a reset step emits none. -/
theorem trace_of_step {s t : State} (h : step s = .next t) :
    ((nextInput s).isEvent = true → t.trace = s.trace ++ t.emitted) ∧
    ((nextInput s).isEvent = false → t.emitted = []) := by
  obtain ⟨hr, rfl⟩ | ⟨hr, _, -, he⟩ := step_cases h
  · exact ⟨fun hev => absurd hr (by simpa [PortIn.isEvent] using hev), fun _ => rfl⟩
  · refine ⟨fun _ => ?_, fun hev => absurd hr (by simpa [PortIn.isEvent] using hev)⟩
    cases he with
    | nothing => simp
    | raised => simp
    | started => rfl
    | dispatched x => simp

theorem faultPort_codes (s : State) :
    (s.ports.fault = 0b00#2 ↔ s.fault = .noFault) ∧
    (s.ports.fault = 0b01#2 ↔ s.fault = .reservedEvent) ∧
    (s.ports.fault = 0b10#2 ↔ s.fault = .spuriousSample) ∧ s.ports.fault ≠ 0b11#2 :=
  ⟨faultPortCode_inj (g := .noFault), faultPortCode_inj (g := .reservedEvent),
    faultPortCode_inj (g := .spuriousSample), faultPortCode_ne_three s.fault⟩

/-- Settles O23: the ports of a silent step, of a start and of a dispatch, one case each. -/
theorem portsShowTheStep : Obligations.PortsShowTheStep := by
  intro s t h
  obtain ⟨hevent, hreset⟩ := trace_of_step h
  have hfault := faultPort_codes t
  refine ⟨hevent, hreset, ?_⟩
  obtain hemitted | hemitted | ⟨d, v, hemitted, hdir, hduty⟩ := emitted_cases h
  · rw [ports_of_silent hemitted] at hfault ⊢
    exact ⟨by simp [hemitted], Iff.rfl, by simp, by simp, by simp, portBit_eq_one, hfault⟩
  · rw [ports_of_start hemitted] at hfault ⊢
    exact ⟨by simp [hemitted], Iff.rfl, by simp, by simp, by simp, portBit_eq_one, hfault⟩
  · rw [ports_of_dispatch hemitted] at hfault ⊢
    exact ⟨by simp [hemitted], by simp, by simp,
      fun _ => ⟨enc d, v, hemitted, rfl, hdir, enc_ne_both d, rfl, hduty⟩, by simp,
      portBit_eq_one, hfault⟩

end Sys2Proof.Machine

namespace Sys2Proof.Machine

/-! Runs from the launch. -/

/-- Settles O31: at a launch both sinks are unwritten and the trace is empty. -/
theorem launchMeetsTheInvariants : Obligations.LaunchMeetsTheInvariants :=
  ⟨fun _ _ => ⟨accounted_of_empty rfl rfl rfl rfl, ⟨rfl, rfl⟩, ⟨rfl, rfl, rfl, rfl⟩, rfl⟩, rfl⟩

/-- What accounts for a trace makes it a word of R84's language. -/
theorem traceShape_cycleTrace (p : MidPolicy) (busy : Bool) (xs : List Sample) :
    traceShape (cycleTrace p busy xs) = true := by
  induction xs with
  | nil => cases busy <;> rfl
  | cons x xs ih => exact ih

/-- Settles O27: every step answers a next state, and a run is one step after another. -/
theorem everyRunGoesOn : Obligations.EveryRunGoesOn := by
  intro k
  induction k with
  | zero => exact fun s => ⟨s, run_zero s⟩
  | succ k ih => exact fun s => run_succ k s ▸ ih (afterStep s)

/-- Settles O32: the state after reset is accounted for and counted, every step keeps both, and an
accounted trace has the shape. -/
theorem everyReachedTraceHasTheCycleShape : Obligations.EveryReachedTraceHasTheCycleShape := by
  intro cfg ps k t h
  have haccounted : Accounted t :=
    run_keeps (fun s hs => stepKeepsTheStateAccountedFor s _ hs (step_eq s)) k
      (accounted_of_empty rfl rfl rfl rfl) h
  have hcounted : Counted t :=
    run_keeps (fun s hs => stepKeepsTheWriteCounts s _ hs (step_eq s)) k ⟨rfl, rfl⟩ h
  obtain ⟨xs, htrace, -, -⟩ := haccounted
  obtain ⟨hstarts, -⟩ := hcounted
  exact ⟨by rw [htrace, traceShape_cycleTrace], hstarts⟩

end Sys2Proof.Machine

namespace Sys2Proof.Machine

/-! Runs of ticks and samples, as the collaborator presents them (R80, R92). -/

theorem run_succ_of_step {s t : State} (k : Nat) (h : step s = .next t) :
    core.run (k + 1) s = core.run k t := by
  rw [run_succ, ← step_eq_next.mp h]

/-- The idle core after one whole cycle of the sample `x`, with `rest` still to come. -/
def afterCycle (x : Sample) (rest : List PortIn) (s : State) : State :=
  { s with
    dirOut := some (enc (directionFromSample x s.cfg.midPolicy))
    dutyOut := some (magnitudeFromSample x)
    trace := s.trace ++ cycleActions s.cfg.midPolicy x
    inputs := rest
    emitted := dispatchActions s.cfg.midPolicy x }

/-- A tick and its sample take an idle core through one whole cycle. -/
theorem run_cycle {s : State} {x : Sample} {rest : List PortIn} (k : Nat) (hf : s.fault = .noFault)
    (hb : s.busy = false)
    (h : s.inputs = eventInput (encode .tick) :: eventInput (encode (.sampleReady x)) :: rest) :
    core.run (k + 2) s = core.run k (afterCycle x rest s) := by
  have htick : step s = .next (emitStartConversion (setBusy true (beginStep s))) := by
    rw [step_tickWord_of_idle hf hb h, beginStep_of_cons h]
    rfl
  rw [run_succ_of_step _ htick, run_succ_of_step _ (step_sampleWord_of_busy (x := x)
    (s := emitStartConversion (setBusy true (beginStep s))) hf rfl (congrArg List.tail h)),
    dispatchSample_eq]
  simp [afterCycle, emitStartConversion, setBusy, record, beginStep, cycleActions, h, hb]

/-- Tick first: a busy core drops the tick and dispatches the sample. -/
theorem run_tick_sample_of_busy {s : State} {x : Sample} (hf : s.fault = .noFault)
    (hb : s.busy = true)
    (h : s.inputs = [eventInput (encode .tick), eventInput (encode (.sampleReady x))]) :
    core.run 2 s = .next (dispatchSample x (beginStep (beginStep s))) := by
  rw [run_succ_of_step _ (step_tickWord_of_busy hf hb h), run_succ_of_step _
    (step_sampleWord_of_busy (x := x) (s := beginStep s) hf hb (congrArg List.tail h)), run_zero]

/-- Sample first: the dispatch leaves the core idle, and the tick starts the next conversion. -/
theorem run_sample_tick_of_busy {s : State} {x : Sample} (hf : s.fault = .noFault)
    (hb : s.busy = true)
    (h : s.inputs = [eventInput (encode (.sampleReady x)), eventInput (encode .tick)]) :
    core.run 2 s = .next { dispatchSample x (beginStep s) with
      busy := true
      trace := (dispatchSample x (beginStep s)).trace ++ [.startConversion]
      inputs := []
      emitted := [.startConversion] } := by
  rw [run_succ_of_step _ (step_sampleWord_of_busy (x := x) hf hb h), run_succ_of_step _
    (step_tickWord_of_idle (s := dispatchSample x (beginStep s)) hf rfl (congrArg List.tail h)),
    run_zero]

/-- A sink holds what the last sample gave it, and before any sample what it held. -/
theorem getLast?_cons_map_or {α : Type} (f : Sample → α) (x : Sample) (xs : List Sample)
    (o : Option α) :
    ((x :: xs).getLast?.map f).or o = (xs.getLast?.map f).or (some (f x)) := by
  cases hx : xs.getLast? <;> simp [List.getLast?_cons, hx]

/-- Settles O33: one cycle per sample, from one idle state to the next. -/
theorem tickAndSampleCyclesDispatchEverySample :
    Obligations.TickAndSampleCyclesDispatchEverySample := by
  intro s xs hf hb h
  induction xs generalizing s with
  | nil =>
    refine ⟨s, run_zero s, ?_, hb, by simp, by simp, by simp⟩
    simp [State.succeeded, State.ended, h, hf]
  | cons x xs ih =>
    obtain ⟨t, hrun, hok, hidle, htrace, hdir, hduty⟩ :=
      ih (afterCycle x ((xs.flatMap cycleWords).map eventInput) s) hf hb rfl
    refine ⟨t, (run_cycle _ hf hb h).trans hrun, hok, hidle, ?_, ?_, ?_⟩
    · rw [htrace]; simp [afterCycle]
    · rw [hdir, getLast?_cons_map_or]; rfl
    · rw [hduty, getLast?_cons_map_or]; rfl

/-- Settles O36: a dropped tick and then the dispatch, or the dispatch and then a start. -/
theorem orderOfSimultaneousEventsMatters : Obligations.OrderOfSimultaneousEventsMatters := by
  intro s x hf hb
  exact ⟨_, _, run_tick_sample_of_busy hf hb rfl, run_sample_tick_of_busy hf hb rfl,
    rfl, rfl, hf, hf, rfl, rfl, dispatchSample_trace x _, by simp⟩

end Sys2Proof.Machine

namespace Sys2Proof.Machine

/-! The environment's contract (R80) and the success of a run (R105). -/

/-- An event of a core that is not faulted raises no fault and leaves the rest of the contract to keep,
or raises one and breaks the contract. -/
theorem contractKept_cons {s : State} (i : Instr) (is : List Instr) (hf : s.fault = .noFault) :
    contractKept s.busy (i :: is) = true ↔
      (eventRule i s).fault = .noFault ∧ contractKept (eventRule i s).busy is = true := by
  cases i with
  | none => simp [contractKept, eventRule, hf]
  | tick => cases hb : s.busy <;> simp [contractKept, eventRule, onTick, hb, hf]
  | sampleReady x => cases hb : s.busy <;> simp [contractKept, eventRule, onSampleReady, hb, hf]
  | reserved => simp [contractKept, eventRule]

theorem EventEffect.inputs_eq {i : Instr} {s t : State} (he : EventEffect i s t) :
    t.inputs = s.inputs := by
  cases he <;> rfl

theorem afterStep_inputs (s : State) : (afterStep s).inputs = s.inputs.tail := by
  obtain ⟨-, h⟩ | ⟨-, _, -, he⟩ := step_cases (step_eq s)
  · rw [h]; rfl
  · exact he.inputs_eq

/-- One event step keeps "not faulted, and the contract kept from here on". -/
theorem afterStep_contractKept {s : State} {w : EvWord} {rest : List PortIn} (is : List Instr)
    (h : s.inputs = eventInput w :: rest) :
    ((afterStep s).fault = .noFault ∧ contractKept (afterStep s).busy is = true) ↔
      (s.fault = .noFault ∧ contractKept s.busy (decodeEvent w :: is) = true) := by
  have hr : (nextInput s).rst = false := by rw [nextInput_cons h]; rfl
  by_cases hf : s.fault = .noFault
  · rw [afterStep_of_event hr hf, nextInput_cons h, and_iff_right hf]
    exact (contractKept_cons (s := beginStep s) _ is hf).symm
  · rw [afterStep_of_faulted hr hf]
    simp [hf]

theorem run_eventWords (evs : List EvWord) {s : State} (h : s.inputs = evs.map eventInput) :
    ∃ t, core.run evs.length s = .next t ∧ t.inputs = [] ∧
      (t.fault = .noFault ↔ s.fault = .noFault ∧ contractKept s.busy (eventsOf evs) = true) := by
  induction evs generalizing s with
  | nil => exact ⟨s, run_zero s, h, by simp [eventsOf, contractKept]⟩
  | cons w ws ih =>
    obtain ⟨t, hrun, hended, hfault⟩ := ih (s := afterStep s) (by rw [afterStep_inputs, h]; rfl)
    exact ⟨t, (run_succ _ s).trans hrun, hended, hfault.trans (afterStep_contractKept _ h)⟩

/-- Settles O35: along the words "not faulted, and the contract kept from here on" does not change, and
after the last one it says just that there is no fault. -/
theorem runSucceedsExactlyWhenTheContractIsKept :
    Obligations.RunSucceedsExactlyWhenTheContractIsKept := by
  intro s evs hf h
  obtain ⟨t, hrun, hended, hfault⟩ := run_eventWords evs h
  exact ⟨t, hrun, by simp [State.ended, hended],
    by simp [State.succeeded, State.ended, hended, hfault, hf]⟩

end Sys2Proof.Machine

namespace Sys2Proof.Machine

/-! The launch parameters (R7, R8, R22): what a step under other ones makes of the state. -/

theorem directionFromSample_policy {x : Sample} {p q : MidPolicy} (h : p = q ∨ x ≠ 127) :
    directionFromSample x p = directionFromSample x q := by
  obtain rfl | hx := h
  · rfl
  · rw [ne_eq, ← toNat_eq_127] at hx
    rcases Nat.lt_or_gt_of_ne hx with hlt | hgt
    · rw [directionFromSample_of_lt hlt, directionFromSample_of_lt hlt]
    · rw [directionFromSample_of_gt hgt, directionFromSample_of_gt hgt]

/-- A rule reads the policy in the dispatch of 127 only. -/
theorem eventRule_withCfg {i : Instr} {s : State} {c : Config}
    (h : c.midPolicy = s.cfg.midPolicy ∨ i ≠ .sampleReady 127 ∨ s.busy = false) :
    eventRule i (s.withCfg c) = (eventRule i s).withCfg c := by
  cases i with
  | none => rfl
  | tick =>
    cases hb : s.busy with
    | false => rw [eventRule, onTick_of_idle hb, onTick_of_idle (s := s.withCfg c) hb]; rfl
    | true => rw [eventRule, onTick_of_busy hb, onTick_of_busy (s := s.withCfg c) hb]
  | sampleReady x =>
    cases hb : s.busy with
    | false =>
      rw [eventRule, onSampleReady_of_idle hb, onSampleReady_of_idle (s := s.withCfg c) hb]; rfl
    | true =>
      have hdir : directionFromSample x c.midPolicy = directionFromSample x s.cfg.midPolicy :=
        directionFromSample_policy (by simpa [hb] using h)
      rw [eventRule, onSampleReady_of_busy hb, onSampleReady_of_busy (s := s.withCfg c) hb]
      simp [dispatchSample_eq, State.withCfg, dispatchActions, hdir]
  | reserved => rfl

theorem step_withCfg {s : State} {c : Config}
    (h : (nextInput s).rst = false → s.fault = .noFault → c.midPolicy = s.cfg.midPolicy ∨
      decodeEvent (nextInput s).ev ≠ .sampleReady 127 ∨ s.busy = false) :
    step (s.withCfg c) = mapNext (State.withCfg c) (step s) := by
  rw [step_eq, step_eq]
  refine congrArg Host.Outcome.next ?_
  cases hr : (nextInput s).rst with
  | true => rw [afterStep_of_reset hr, afterStep_of_reset (s := s.withCfg c) hr]; rfl
  | false =>
    by_cases hf : s.fault = .noFault
    · rw [afterStep_of_event hr hf, afterStep_of_event (s := s.withCfg c) hr hf]
      exact eventRule_withCfg (s := beginStep s) (h hr hf)
    · rw [afterStep_of_faulted hr hf, afterStep_of_faulted (s := s.withCfg c) hr hf]; rfl

theorem cfg_of_step {s t : State} (h : step s = .next t) : t.cfg = s.cfg := by
  obtain ⟨-, rfl⟩ | ⟨-, _, -, he⟩ := step_cases h
  · rfl
  · cases he <;> rfl

theorem isEvent_iff {p : PortIn} : p.isEvent = true ↔ p.rst = false := by simp [PortIn.isEvent]

/-- A dispatch of 127, field by field: the duty is 0, and the code is the policy's. -/
theorem step_of_midpoint {s : State} (hr : (nextInput s).rst = false)
    (hi : decodeEvent (nextInput s).ev = .sampleReady 127) (hb : s.busy = true)
    (hf : s.fault = .noFault) :
    step s = .next { beginStep s with
      busy := false
      dirOut := some (enc (directionFromSample 127 s.cfg.midPolicy))
      dutyOut := some 0
      trace := s.trace ++ [.setDirection (enc (directionFromSample 127 s.cfg.midPolicy)), .setDuty 0]
      emitted := [.setDirection (enc (directionFromSample 127 s.cfg.midPolicy)), .setDuty 0] } := by
  have hduty : magnitudeFromSample 127 = 0 := by decide
  rw [step_eq, afterStep_of_event hr hf, hi, eventRule, onSampleReady_of_busy (s := beginStep s) hb,
    dispatchSample_eq, dispatchActions, hduty]
  rfl

/-- Settles O24: no rule writes a parameter, the policy is read in the dispatch of 127 only, and there it
is read by the direction alone. -/
theorem parametersDecideOnlyTheMidpoint : Obligations.ParametersDecideOnlyTheMidpoint := by
  refine ⟨fun _ _ => cfg_of_step, fun s c h => step_withCfg fun hr _ => ?elsewhere,
    fun s c hev hi => ⟨fun h => step_withCfg fun _ hf => ?undispatched, fun hb hf => ?dispatched⟩⟩
  case elsewhere => exact h.imp_right fun hne => .inl (hne (isEvent_iff.mpr hr))
  case undispatched => exact .inr (.inr (h.resolve_right (not_not_intro hf)))
  case dispatched =>
    have hr := isEvent_iff.mp hev
    exact ⟨_, _, _, step_of_midpoint hr hi hb hf, rfl, rfl, rfl, rfl, rfl,
      step_of_midpoint (s := s.withCfg c) hr hi hb hf⟩

end Sys2Proof.Machine
